-- ==== Sys2Proof/Word.lean ====
section
/-! DEFINITION. The word types of PTS: every register and every action word is 32 bits (R70, R100), bytes only number
a register's parts (R71), and immediates, FLAGS and settle counts are 16 bits (R101, R6). -/

namespace Sys2Proof

/-- A register or an action word (R70, R100). -/
abbrev Word := BitVec 32

/-- A byte of the register window (R71). -/
abbrev Byte := BitVec 8

/-- An immediate, the flag register, or a settle count (R101, R6). -/
abbrev Half := BitVec 16

end Sys2Proof
end

