-- ==== Sys2Proof/Config.lean ====
section
/-! DEFINITION. The ports of the block (R22, R72) as data, the OPEN parameters of the integration (R6) and the free
input of a step (R130): constants without a body, so nothing can be proved of their values. The sizing parameters of R6
are the types of State's fields. -/

namespace Sys2Proof

/-- The sizes a bus request may carry, in bytes: 1, 2 or 4 (R72). -/
inductive AccessSize where
  | byte
  | half
  | word
deriving DecidableEq, Repr, Inhabited

/-- One bus request with `valid = 1` (R72); a step without a request has none. -/
structure BusRequest where
  write : Bool
  addr : BitVec 12
  size : AccessSize
  wdata : Word
deriving DecidableEq, Repr, Inhabited

/-- The response of the block to the request of the same step (R72). -/
structure BusResponse where
  rdata : Word
  error : Bool
deriving DecidableEq, Repr, Inhabited

/-- What the environment chooses in one step: `rst`, `pin_in[3:0]` and `bus_req` (R22, R130, R131). -/
structure Input where
  rst : Bool
  pins : BitVec 4
  req : Option BusRequest
deriving DecidableEq, Repr, Inhabited

namespace Config

/-- CLOCK_HZ, OPEN: "it affects no rule" (R6, U3). -/
opaque clockHz : Nat

/-- PTS_BASE / 4096, OPEN (R6, U2). -/
opaque ptsBasePage : Nat

/-- PTS_BASE, "a multiple of 4096" (R6). -/
def ptsBase : Nat := 4096 * ptsBasePage

/-- FREE VALUE. The input the environment chooses in the step numbered `n` once the list of inputs in State has ended:
any reset level, any pins, any request (R130, U4, U6). Log entry 2 (DESIGN CHOICE, safe). -/
opaque freeInput (n : Nat) : Input

end Config

end Sys2Proof
end

