-- ==== Sys2Proof/Syntax.lean ====
section
/-! DEFINITION. The action words of PTS as syntax: one constructor per row of the opcode table (R104). `sel` is the
SEL field (an index of the target's kind, R101), `imm` the IMM field; a word without a target or an immediate has none. -/

namespace Sys2Proof

/-- The 25 action words of PTS v1 (R104). -/
inductive Instr where
  | nop
  | flagSet (imm : Half)
  | flagClr (imm : Half)
  | flagTgl (imm : Half)
  | flagLd (imm : Half)
  | cntAdd (sel : BitVec 3) (imm : Half)
  | cntSub (sel : BitVec 3) (imm : Half)
  | cntLd (sel : BitVec 3) (imm : Half)
  | cntIncw (sel : BitVec 3) (imm : Half)
  | cntDecw (sel : BitVec 3) (imm : Half)
  | outSet (sel : BitVec 3)
  | outClr (sel : BitVec 3)
  | outTgl (sel : BitVec 3)
  | seqAdv (sel : BitVec 3)
  | seqStep (sel : BitVec 3)
  | seqOvr (sel : BitVec 3)
  | seqShow (sel : BitVec 3) (imm : Half)
  | seqSetc (sel : BitVec 3) (imm : Half)
  | taskRst (sel : BitVec 3)
  | taskSetc (sel : BitVec 3) (imm : Half)
  | taskEn (sel : BitVec 3)
  | taskDis (sel : BitVec 3)
  | tickClr
  | measCap (sel : BitVec 3)
  | measClr (sel : BitVec 3)
deriving DecidableEq, Repr, Inhabited

/-- The operation codes, in the order of their numbers 0x00..0x18 (R104). -/
inductive Opcode where
  | nop | flagSet | flagClr | flagTgl | flagLd
  | cntAdd | cntSub | cntLd | cntIncw | cntDecw
  | outSet | outClr | outTgl
  | seqAdv | seqStep | seqOvr | seqShow | seqSetc
  | taskRst | taskSetc | taskEn | taskDis
  | tickClr | measCap | measClr
deriving DecidableEq, Repr, Inhabited

/-- The kinds of target SEL may index (R103); `none` for NOP, FLAG.* and TICK.CLR. -/
inductive TargetKind where
  | none | counter | mask | seq | task | meas
deriving DecidableEq, Repr

end Sys2Proof
end

