-- ==== Sys2Proof/WellFormed.lean ====
section
/-! DEFINITION. Which terms of Instr are instructions of PTS v1: SEL lies in the range of its target's kind (R103). -/

namespace Sys2Proof

/-- SEL is in range: counter 0..3, mask 0..7, sequence unit 0..1, task 0..3, measurement unit 0..1 (R103). -/
def WellFormed (i : Instr) : Bool :=
  match i with
  | .nop => true
  | .flagSet _ => true
  | .flagClr _ => true
  | .flagTgl _ => true
  | .flagLd _ => true
  | .cntAdd sel _ => sel.toNat < 4
  | .cntSub sel _ => sel.toNat < 4
  | .cntLd sel _ => sel.toNat < 4
  | .cntIncw sel _ => sel.toNat < 4
  | .cntDecw sel _ => sel.toNat < 4
  | .outSet sel => sel.toNat < 8
  | .outClr sel => sel.toNat < 8
  | .outTgl sel => sel.toNat < 8
  | .seqAdv sel => sel.toNat < 2
  | .seqStep sel => sel.toNat < 2
  | .seqOvr sel => sel.toNat < 2
  | .seqShow sel _ => sel.toNat < 2
  | .seqSetc sel _ => sel.toNat < 2
  | .taskRst sel => sel.toNat < 4
  | .taskSetc sel _ => sel.toNat < 4
  | .taskEn sel => sel.toNat < 4
  | .taskDis sel => sel.toNat < 4
  | .tickClr => true
  | .measCap sel => sel.toNat < 2
  | .measClr sel => sel.toNat < 2

end Sys2Proof
end

