-- ==== Sys2Proof/Decode.lean ====
section
/-! DEFINITION. Decoding and encoding of action words (R100 to R106). `decode` is total on 32-bit words and names the
error of a rejected word; `encode` writes an instruction's word from the same field layout. -/

namespace Sys2Proof

/-- What `Decode` answers for a word that is no instruction (R105). -/
inductive DecodeError where
  | badOp
  | badFmt
  | badIdx
deriving DecidableEq, Repr

/-- OP, bits 31:27 (R101). -/
def opField (w : Word) : BitVec 5 := w.extractLsb' 27 5

/-- SEL, bits 26:24 (R101, R102). -/
def selField (w : Word) : BitVec 3 := w.extractLsb' 24 3

/-- RSV, bits 23:16, 0 in every legal word (R101). -/
def rsvField (w : Word) : BitVec 8 := w.extractLsb' 16 8

/-- IMM, bits 15:0 (R101, R102). -/
def immField (w : Word) : Half := w.extractLsb' 0 16

/-- The OP column of R104; 0x19..0x1F are reserved. -/
def Opcode.ofNumber (n : Nat) : Option Opcode :=
  match n with
  | 0x00 => some .nop
  | 0x01 => some .flagSet
  | 0x02 => some .flagClr
  | 0x03 => some .flagTgl
  | 0x04 => some .flagLd
  | 0x05 => some .cntAdd
  | 0x06 => some .cntSub
  | 0x07 => some .cntLd
  | 0x08 => some .cntIncw
  | 0x09 => some .cntDecw
  | 0x0A => some .outSet
  | 0x0B => some .outClr
  | 0x0C => some .outTgl
  | 0x0D => some .seqAdv
  | 0x0E => some .seqStep
  | 0x0F => some .seqOvr
  | 0x10 => some .seqShow
  | 0x11 => some .seqSetc
  | 0x12 => some .taskRst
  | 0x13 => some .taskSetc
  | 0x14 => some .taskEn
  | 0x15 => some .taskDis
  | 0x16 => some .tickClr
  | 0x17 => some .measCap
  | 0x18 => some .measClr
  | _ => Option.none

/-- The operation code of an instruction's number (the OP column of R104). -/
def Opcode.number (o : Opcode) : BitVec 5 :=
  match o with
  | .nop => 0x00#5
  | .flagSet => 0x01#5
  | .flagClr => 0x02#5
  | .flagTgl => 0x03#5
  | .flagLd => 0x04#5
  | .cntAdd => 0x05#5
  | .cntSub => 0x06#5
  | .cntLd => 0x07#5
  | .cntIncw => 0x08#5
  | .cntDecw => 0x09#5
  | .outSet => 0x0A#5
  | .outClr => 0x0B#5
  | .outTgl => 0x0C#5
  | .seqAdv => 0x0D#5
  | .seqStep => 0x0E#5
  | .seqOvr => 0x0F#5
  | .seqShow => 0x10#5
  | .seqSetc => 0x11#5
  | .taskRst => 0x12#5
  | .taskSetc => 0x13#5
  | .taskEn => 0x14#5
  | .taskDis => 0x15#5
  | .tickClr => 0x16#5
  | .measCap => 0x17#5
  | .measClr => 0x18#5

/-- The kind of target SEL indexes (the SEL column of R104). -/
def Opcode.kind (o : Opcode) : TargetKind :=
  match o with
  | .nop => .none
  | .flagSet => .none
  | .flagClr => .none
  | .flagTgl => .none
  | .flagLd => .none
  | .cntAdd => .counter
  | .cntSub => .counter
  | .cntLd => .counter
  | .cntIncw => .counter
  | .cntDecw => .counter
  | .outSet => .mask
  | .outClr => .mask
  | .outTgl => .mask
  | .seqAdv => .seq
  | .seqStep => .seq
  | .seqOvr => .seq
  | .seqShow => .seq
  | .seqSetc => .seq
  | .taskRst => .task
  | .taskSetc => .task
  | .taskEn => .task
  | .taskDis => .task
  | .tickClr => .none
  | .measCap => .meas
  | .measClr => .meas

/-- Whether the opcode takes an immediate (the IMM column of R104). -/
def Opcode.takesImm (o : Opcode) : Bool :=
  match o with
  | .nop => false
  | .flagSet => true
  | .flagClr => true
  | .flagTgl => true
  | .flagLd => true
  | .cntAdd => true
  | .cntSub => true
  | .cntLd => true
  | .cntIncw => true
  | .cntDecw => true
  | .outSet => false
  | .outClr => false
  | .outTgl => false
  | .seqAdv => false
  | .seqStep => false
  | .seqOvr => false
  | .seqShow => true
  | .seqSetc => true
  | .taskRst => false
  | .taskSetc => true
  | .taskEn => false
  | .taskDis => false
  | .tickClr => false
  | .measCap => false
  | .measClr => false

/-- How many values of SEL are legal (R103); without a target only SEL = 0 is (R101). -/
def TargetKind.range (k : TargetKind) : Nat :=
  match k with
  | .none => 1
  | .counter => 4
  | .mask => 8
  | .seq => 2
  | .task => 4
  | .meas => 2

/-- The `match` column of R104. -/
def Opcode.matchWord (o : Opcode) : Word :=
  match o with
  | .nop => 0x00000000#32
  | .flagSet => 0x08000000#32
  | .flagClr => 0x10000000#32
  | .flagTgl => 0x18000000#32
  | .flagLd => 0x20000000#32
  | .cntAdd => 0x28000000#32
  | .cntSub => 0x30000000#32
  | .cntLd => 0x38000000#32
  | .cntIncw => 0x40000000#32
  | .cntDecw => 0x48000000#32
  | .outSet => 0x50000000#32
  | .outClr => 0x58000000#32
  | .outTgl => 0x60000000#32
  | .seqAdv => 0x68000000#32
  | .seqStep => 0x70000000#32
  | .seqOvr => 0x78000000#32
  | .seqShow => 0x80000000#32
  | .seqSetc => 0x88000000#32
  | .taskRst => 0x90000000#32
  | .taskSetc => 0x98000000#32
  | .taskEn => 0xA0000000#32
  | .taskDis => 0xA8000000#32
  | .tickClr => 0xB0000000#32
  | .measCap => 0xB8000000#32
  | .measClr => 0xC0000000#32

/-- The `mask` column of R104. -/
def Opcode.maskWord (o : Opcode) : Word :=
  match o with
  | .nop => 0xFFFFFFFF#32
  | .flagSet => 0xFFFF0000#32
  | .flagClr => 0xFFFF0000#32
  | .flagTgl => 0xFFFF0000#32
  | .flagLd => 0xFFFF0000#32
  | .cntAdd => 0xF8FF0000#32
  | .cntSub => 0xF8FF0000#32
  | .cntLd => 0xF8FF0000#32
  | .cntIncw => 0xF8FF0000#32
  | .cntDecw => 0xF8FF0000#32
  | .outSet => 0xF8FFFFFF#32
  | .outClr => 0xF8FFFFFF#32
  | .outTgl => 0xF8FFFFFF#32
  | .seqAdv => 0xF8FFFFFF#32
  | .seqStep => 0xF8FFFFFF#32
  | .seqOvr => 0xF8FFFFFF#32
  | .seqShow => 0xF8FF0000#32
  | .seqSetc => 0xF8FF0000#32
  | .taskRst => 0xF8FFFFFF#32
  | .taskSetc => 0xF8FF0000#32
  | .taskEn => 0xF8FFFFFF#32
  | .taskDis => 0xF8FFFFFF#32
  | .tickClr => 0xFFFFFFFF#32
  | .measCap => 0xF8FFFFFF#32
  | .measClr => 0xF8FFFFFF#32

/-- The instruction of an operation code with the fields of its word; a field the opcode does not have is dropped. -/
def Opcode.build (o : Opcode) (sel : BitVec 3) (imm : Half) : Instr :=
  match o with
  | .nop => .nop
  | .flagSet => .flagSet imm
  | .flagClr => .flagClr imm
  | .flagTgl => .flagTgl imm
  | .flagLd => .flagLd imm
  | .cntAdd => .cntAdd sel imm
  | .cntSub => .cntSub sel imm
  | .cntLd => .cntLd sel imm
  | .cntIncw => .cntIncw sel imm
  | .cntDecw => .cntDecw sel imm
  | .outSet => .outSet sel
  | .outClr => .outClr sel
  | .outTgl => .outTgl sel
  | .seqAdv => .seqAdv sel
  | .seqStep => .seqStep sel
  | .seqOvr => .seqOvr sel
  | .seqShow => .seqShow sel imm
  | .seqSetc => .seqSetc sel imm
  | .taskRst => .taskRst sel
  | .taskSetc => .taskSetc sel imm
  | .taskEn => .taskEn sel
  | .taskDis => .taskDis sel
  | .tickClr => .tickClr
  | .measCap => .measCap sel
  | .measClr => .measClr sel

/-- `Decode(w)` with its checks in the order of R105: BADOP, then BADFMT, then BADIDX. -/
def decode (w : Word) : Except DecodeError Instr :=
  match Opcode.ofNumber (opField w).toNat with
  | Option.none => .error .badOp
  | some o =>
    if rsvField w ≠ 0 then .error .badFmt
    else if o.kind = .none ∧ selField w ≠ 0 then .error .badFmt
    else if o.takesImm = false ∧ immField w ≠ 0 then .error .badFmt
    else if o.kind.range ≤ (selField w).toNat then .error .badIdx
    else .ok (o.build (selField w) (immField w))

/-- The decoder on the bits of a table row: bit 0 of `w` is the word's bit 0 and bits from `nbits` on are 0. An action
word is one 32-bit register value (R71, R100), so there is nothing to lay out. -/
def decodeTableWord (nbits w : Nat) : Option Instr :=
  match decode (BitVec.ofNat 32 (w % 2 ^ nbits)) with
  | .ok i => some i
  | .error _ => Option.none

/-! The encoder. -/

/-- The operation code of an instruction (R104). -/
def Instr.opcode (i : Instr) : Opcode :=
  match i with
  | .nop => .nop
  | .flagSet _ => .flagSet
  | .flagClr _ => .flagClr
  | .flagTgl _ => .flagTgl
  | .flagLd _ => .flagLd
  | .cntAdd _ _ => .cntAdd
  | .cntSub _ _ => .cntSub
  | .cntLd _ _ => .cntLd
  | .cntIncw _ _ => .cntIncw
  | .cntDecw _ _ => .cntDecw
  | .outSet _ => .outSet
  | .outClr _ => .outClr
  | .outTgl _ => .outTgl
  | .seqAdv _ => .seqAdv
  | .seqStep _ => .seqStep
  | .seqOvr _ => .seqOvr
  | .seqShow _ _ => .seqShow
  | .seqSetc _ _ => .seqSetc
  | .taskRst _ => .taskRst
  | .taskSetc _ _ => .taskSetc
  | .taskEn _ => .taskEn
  | .taskDis _ => .taskDis
  | .tickClr => .tickClr
  | .measCap _ => .measCap
  | .measClr _ => .measClr

/-- The SEL field of an instruction, 0 where the opcode has no target (R101). -/
def Instr.sel (i : Instr) : BitVec 3 :=
  match i with
  | .nop => 0
  | .flagSet _ => 0
  | .flagClr _ => 0
  | .flagTgl _ => 0
  | .flagLd _ => 0
  | .cntAdd sel _ => sel
  | .cntSub sel _ => sel
  | .cntLd sel _ => sel
  | .cntIncw sel _ => sel
  | .cntDecw sel _ => sel
  | .outSet sel => sel
  | .outClr sel => sel
  | .outTgl sel => sel
  | .seqAdv sel => sel
  | .seqStep sel => sel
  | .seqOvr sel => sel
  | .seqShow sel _ => sel
  | .seqSetc sel _ => sel
  | .taskRst sel => sel
  | .taskSetc sel _ => sel
  | .taskEn sel => sel
  | .taskDis sel => sel
  | .tickClr => 0
  | .measCap sel => sel
  | .measClr sel => sel

/-- The IMM field of an instruction, 0 where the opcode takes none (R101). -/
def Instr.imm (i : Instr) : Half :=
  match i with
  | .nop => 0
  | .flagSet imm => imm
  | .flagClr imm => imm
  | .flagTgl imm => imm
  | .flagLd imm => imm
  | .cntAdd _ imm => imm
  | .cntSub _ imm => imm
  | .cntLd _ imm => imm
  | .cntIncw _ imm => imm
  | .cntDecw _ imm => imm
  | .outSet _ => 0
  | .outClr _ => 0
  | .outTgl _ => 0
  | .seqAdv _ => 0
  | .seqStep _ => 0
  | .seqOvr _ => 0
  | .seqShow _ imm => imm
  | .seqSetc _ imm => imm
  | .taskRst _ => 0
  | .taskSetc _ imm => imm
  | .taskEn _ => 0
  | .taskDis _ => 0
  | .tickClr => 0
  | .measCap _ => 0
  | .measClr _ => 0

/-- The word of an instruction: OP, SEL, RSV = 0, IMM from the top (R101). -/
def encode (i : Instr) : Word := i.opcode.number ++ i.sel ++ 0#8 ++ i.imm

end Sys2Proof
end

