-- ==== Sys2Proof/Machine/State.lean ====
section
/-! DEFINITION. The state of PTS as plain data: every register and all hidden state of 10_state.md, the model's own
fields (inputs, time, rsp, requester), the two reason types of the interface, and the reset state (R360). A register's
fields stand one by one; its reserved bits read 0 and ignore writes (R76, U8), so no field holds them. -/

namespace Sys2Proof.Machine

/-- A step of PTS never faults: "No behaviour of the block is stuck" and errors are recorded state (R138, R322, 93), so
this type has no constructor; that is safe, nothing is stopped that the block would go on from. -/
inductive Fault where
deriving DecidableEq, Repr

/-- Why the model refuses an instruction. -/
inductive Refusal where
  /-- Raised by an arm of exec whose instruction has no meaning yet; no arm is left that raises it. Safe: the model
  stops where the block goes on. -/
  | notModelled (mnemonic : String)
deriving DecidableEq, Repr

/-- The error codes of R320; 7..15 never occur. -/
inductive ErrCause where
  | none
  | badOp
  | badFmt
  | badIdx
  | badCfg
  | badReload
  | access
deriving DecidableEq, Repr

/-- The requester classes of ERR_CODE.SRC (R30): CMD, TASK, LINE0, LINE1, BUS, TICKCFG; 6 and 7 never occur. -/
inductive Source where
  | cmd
  | task
  | line0
  | line1
  | bus
  | tickCfg
deriving DecidableEq, Repr

/-- In whose name an action executes: the arguments src and idx of Exec (R135). -/
structure Requester where
  src : Source
  idx : Fin 4
deriving DecidableEq, Repr

/-- TICK_CTRL (R23). -/
structure TickCtrl where
  en : Bool
  tickInt : Bool
  dispatch : Bool
deriving DecidableEq, Repr

/-- PEND (R27); bit k of `task` is PEND.TASK[k], bit i of `line` is PEND.LINE[i]. -/
structure Pend where
  tick : Bool
  task : BitVec 4
  line : BitVec 4
  err : Bool
deriving DecidableEq, Repr

/-- MISSED (R28). -/
structure Missed where
  tickOvr : Bool
  line : BitVec 4
deriving DecidableEq, Repr

/-- ERR_CODE (R30). -/
structure ErrCode where
  code : ErrCause
  src : Source
  idx : Fin 4
  multi : Bool
deriving DecidableEq, Repr

/-- TASK[k].CTRL.MODE (R37). -/
inductive TaskMode where
  | countdown
  | track
deriving DecidableEq, Repr

/-- TASK[k].CTRL (R37). -/
structure TaskCtrl where
  en : Bool
  mode : TaskMode
  irqEn : Bool
  gateEn : Bool
  gateFlag : BitVec 4
  msel : BitVec 1
deriving DecidableEq, Repr

/-- A task slot (R37 to R40). -/
structure Task where
  ctrl : TaskCtrl
  reload : Word
  count : Word
  action : Word
deriving DecidableEq, Repr

/-- LINE[i].CTRL.SENSE (R42, R231). -/
inductive Sense where
  | fall
  | rise
  | low
  | high
deriving DecidableEq, Repr

/-- LINE[i].CTRL (R42). -/
structure LineCtrl where
  en : Bool
  sense : Sense
  irqEn : Bool
  actEn : Bool
  prio : BitVec 2
deriving DecidableEq, Repr

/-- The debounce state DB[i] (R55). -/
inductive Debounce where
  | idle
  | settle (c : Half)
  | hold
deriving DecidableEq, Repr

/-- An edge line: its registers (R42 to R44), its debounce state (R45, R55) and its synchroniser (R54). -/
structure Line where
  ctrl : LineCtrl
  debounce : Half
  act0 : Word
  act1 : Word
  db : Debounce
  sync1 : Bool
  sync2 : Bool
deriving DecidableEq, Repr

/-- A period-measurement unit (R46 to R50). -/
structure Meas where
  acc : Word
  last : Word
  period : Word
  min : Word
  max : Word
deriving DecidableEq, Repr

/-- A sequence unit (R51 to R53). -/
structure SeqUnit where
  len : BitVec 5
  msel : BitVec 3
  cur : BitVec 4
  table : Vector Word 16
deriving DecidableEq, Repr

/-- The state of the machine: the block's (R23 to R56), then the model's own four fields. -/
structure State where
  tickCtrl : TickCtrl
  tickReload : BitVec 24
  tickCurrent : BitVec 24
  ticks : Word
  pend : Pend
  missed : Missed
  ovrCnt : Word
  errCode : ErrCode
  errInfo : Word
  flags : Half
  out : Word
  cnt : Vector Word 4
  mask : Vector Word 8
  tasks : Vector Task 4
  lines : Vector Line 4
  meas : Vector Meas 2
  seqs : Vector SeqUnit 2
  /-- The model's: who executes the current action (R135, log entry 4). -/
  requester : Requester
  /-- The model's: the response to the latest step's request (R72, log entry 3). -/
  rsp : BusResponse
  /-- The model's: the inputs of the coming steps, first one first (R130, log entry 1). -/
  inputs : List Input
  /-- The model's: which free input a step takes when `inputs` has ended (log entry 2). -/
  time : Nat
deriving DecidableEq, Repr

/-- A task slot after reset: disabled, COUNTDOWN, NOP (R360). -/
def Task.reset : Task :=
  { ctrl := { en := false, mode := .countdown, irqEn := false, gateEn := false, gateFlag := 0, msel := 0 }
    reload := 0
    count := 0
    action := 0 }

/-- A line after reset: disabled, FALL, NOP, DB IDLE, both flip-flops 1 (R360, R54). -/
def Line.reset : Line :=
  { ctrl := { en := false, sense := .fall, irqEn := false, actEn := false, prio := 0 }
    debounce := 0
    act0 := 0
    act1 := 0
    db := .idle
    sync1 := true
    sync2 := true }

/-- A measurement unit after reset: PERIOD and MAX are 0xFFFF_FFFF (R360, R48, R50). -/
def Meas.reset : Meas :=
  { acc := 0, last := 0, period := 0xFFFFFFFF, min := 0, max := 0xFFFFFFFF }

/-- A sequence unit after reset (R360). -/
def SeqUnit.reset : SeqUnit :=
  { len := 0, msel := 0, cur := 0, table := Vector.replicate 16 0 }

/-- ResetState (R360). The model's own fields start with no input listed, time 0, the response of a reset step (R361)
and no action executing (log entries 1 to 4). -/
def State.reset : State :=
  { tickCtrl := { en := false, tickInt := false, dispatch := false }
    tickReload := 0
    tickCurrent := 0
    ticks := 0
    pend := { tick := false, task := 0, line := 0, err := false }
    missed := { tickOvr := false, line := 0 }
    ovrCnt := 0
    errCode := { code := .none, src := .cmd, idx := 0, multi := false }
    errInfo := 0
    flags := 0
    out := 0
    cnt := Vector.replicate 4 0
    mask := Vector.replicate 8 0
    tasks := Vector.replicate 4 Task.reset
    lines := Vector.replicate 4 Line.reset
    meas := Vector.replicate 2 Meas.reset
    seqs := Vector.replicate 2 SeqUnit.reset
    requester := { src := .cmd, idx := 0 }
    rsp := { rdata := 0, error := false }
    inputs := []
    time := 0 }

end Sys2Proof.Machine
end

