-- ==== Sys2Proof/Machine/Ops.lean ====
section
/-! DEFINITION. The named operations over the registers of PTS: one read and one write per register of State, sequencing
of steps that may stop, and the one operation that takes the place of an exception: capturing an error (R322), with the
clearing of the capture beside it (R30). -/

namespace Sys2Proof.Machine

/-- What a step or an action answers (Host/Core.lean). -/
abbrev Result := Host.Outcome State Fault Refusal

/-- Sequential composition of updates (R9, R133): the second runs on the state the first left. -/
def andThen (r : Result) (f : State → Result) : Result :=
  match r with
  | .next s => f s
  | .fault e => .fault e
  | .refused e => .refused e

/-- One update per element, in the order of the list (R133). -/
def forEach {α : Type} (l : List α) (f : α → State → Result) (s : State) : Result :=
  match l with
  | [] => .next s
  | a :: rest => andThen (f a s) (forEach rest f)

/-! Reads and writes of single registers. -/

/-- Write TICK_CTRL (R23). -/
def State.setTickCtrl (s : State) (v : TickCtrl) : State := { s with tickCtrl := v }

/-- Write TICK_RELOAD (R24). -/
def State.setTickReload (s : State) (v : BitVec 24) : State := { s with tickReload := v }

/-- Write TICK_CURRENT (R25). -/
def State.setTickCurrent (s : State) (v : BitVec 24) : State := { s with tickCurrent := v }

/-- Write TICKS (R26). -/
def State.setTicks (s : State) (v : Word) : State := { s with ticks := v }

/-- Write PEND (R27). -/
def State.setPend (s : State) (v : Pend) : State := { s with pend := v }

/-- Write MISSED (R28). -/
def State.setMissed (s : State) (v : Missed) : State := { s with missed := v }

/-- Write OVR_CNT (R29). -/
def State.setOvrCnt (s : State) (v : Word) : State := { s with ovrCnt := v }

/-- Write ERR_CODE (R30). -/
def State.setErrCode (s : State) (v : ErrCode) : State := { s with errCode := v }

/-- Write ERR_INFO (R31). -/
def State.setErrInfo (s : State) (v : Word) : State := { s with errInfo := v }

/-- Write FLAGS (R32). -/
def State.setFlags (s : State) (v : Half) : State := { s with flags := v }

/-- Write OUT (R34). -/
def State.setOut (s : State) (v : Word) : State := { s with out := v }

/-- Write the requester of the executing action (R135). -/
def State.setRequester (s : State) (v : Requester) : State := { s with requester := v }

/-- Write the response of the step (R72). -/
def State.setRsp (s : State) (v : BusResponse) : State := { s with rsp := v }

/-- Read CNT[c] (R33). -/
def State.counter (s : State) (c : Fin 4) : Word := s.cnt[c]

/-- Write CNT[c] (R33). -/
def State.setCounter (s : State) (c : Fin 4) (v : Word) : State := { s with cnt := s.cnt.set c v }

/-- Read MASK[m] (R36). -/
def State.maskReg (s : State) (m : Fin 8) : Word := s.mask[m]

/-- Write MASK[m] (R36). -/
def State.setMaskReg (s : State) (m : Fin 8) (v : Word) : State := { s with mask := s.mask.set m v }

/-- Read TASK[k] (R37 to R40). -/
def State.task (s : State) (k : Fin 4) : Task := s.tasks[k]

/-- Write TASK[k] (R37 to R40). -/
def State.setTask (s : State) (k : Fin 4) (v : Task) : State := { s with tasks := s.tasks.set k v }

/-- Read LINE[i] with its hidden state (R42 to R45, R54, R55). -/
def State.line (s : State) (i : Fin 4) : Line := s.lines[i]

/-- Write LINE[i] with its hidden state (R42 to R45, R54, R55). -/
def State.setLine (s : State) (i : Fin 4) (v : Line) : State := { s with lines := s.lines.set i v }

/-- Read MEAS[u] (R46 to R50). -/
def State.measUnit (s : State) (u : Fin 2) : Meas := s.meas[u]

/-- Write MEAS[u] (R46 to R50). -/
def State.setMeasUnit (s : State) (u : Fin 2) (v : Meas) : State := { s with meas := s.meas.set u v }

/-- Read SEQ[j] (R51 to R53). -/
def State.seqUnit (s : State) (j : Fin 2) : SeqUnit := s.seqs[j]

/-- Write SEQ[j] (R51 to R53). -/
def State.setSeqUnit (s : State) (j : Fin 2) (v : SeqUnit) : State := { s with seqs := s.seqs.set j v }

/-- TASK[k].COUNT <- v (R39). -/
def State.setCount (s : State) (k : Fin 4) (v : Word) : State := s.setTask k { s.task k with count := v }

/-- TASK[k].CTRL.EN <- b (R37). -/
def State.setTaskEn (s : State) (k : Fin 4) (b : Bool) : State :=
  s.setTask k { s.task k with ctrl := { (s.task k).ctrl with en := b } }

/-- SEQ[j].CUR <- e mod 16, its 4 bits (R52). -/
def State.setCursor (s : State) (j : Fin 2) (e : Nat) : State :=
  s.setSeqUnit j { s.seqUnit j with cur := BitVec.ofNat 4 e }

/-! The environment's inputs (R130; log entries 1 and 2). -/

/-- The input of the coming step: the first listed one, or a free one when none is listed. -/
def State.nextInput (s : State) : Input :=
  match s.inputs with
  | [] => Config.freeInput s.time
  | i :: _ => i

/-- The state with the coming step's input taken. -/
def State.takeInput (s : State) : State := { s with inputs := s.inputs.tail, time := s.time + 1 }

/-- The whole state set to ResetState (R132, R360); what the environment will do next is not the block's and stays. -/
def State.toReset (s : State) : State := { State.reset with inputs := s.inputs, time := s.time }

/-! Errors (R322, R30). -/

/-- `raise Error(code, src, idx, info)` (R322): the first error is captured, a later one only sets MULTI. Nothing else
changes: it is no trap (R10, R329). -/
def raiseError (code : ErrCause) (src : Source) (idx : Fin 4) (info : Word) (s : State) : State :=
  if s.pend.err then s.setErrCode { s.errCode with multi := true }
  else
    ((s.setErrCode { code := code, src := src, idx := idx, multi := false }).setErrInfo info).setPend
      { s.pend with err := true }

/-- The W1C of PEND.ERR: clears PEND.ERR, ERR_CODE and ERR_INFO in the same write (R30, R322). -/
def clearError (s : State) : State :=
  ((s.setErrCode { code := .none, src := .cmd, idx := 0, multi := false }).setErrInfo 0).setPend
    { s.pend with err := false }

/-- An error an executing action raises, in its requester's name and with its own word (R106, R200; log entry 6). -/
def raiseByAction (code : ErrCause) (i : Instr) (s : State) : State :=
  raiseError code s.requester.src s.requester.idx (encode i) s

end Sys2Proof.Machine
end

