-- ==== Sys2Proof/Machine/Operands.lean ====
section
/-! DEFINITION. The operand forms of action words (R102, R103): SEL as an index of its target's kind, refused when it is
out of range, IMM zero-extended to 32 bits, and the two shells every action with a target runs in. -/

namespace Sys2Proof.Machine

/-- A counter index 0..3 (R103). -/
def counterSel (sel : BitVec 3) : Option (Fin 4) := if h : sel.toNat < 4 then some ⟨sel.toNat, h⟩ else none

/-- A mask index 0..7: every SEL is in range (R103, R202). -/
def maskSel (sel : BitVec 3) : Option (Fin 8) := if h : sel.toNat < 8 then some ⟨sel.toNat, h⟩ else none

/-- A sequence unit 0..1 (R103). -/
def seqSel (sel : BitVec 3) : Option (Fin 2) := if h : sel.toNat < 2 then some ⟨sel.toNat, h⟩ else none

/-- A task slot 0..3 (R103). -/
def taskSel (sel : BitVec 3) : Option (Fin 4) := if h : sel.toNat < 4 then some ⟨sel.toNat, h⟩ else none

/-- A measurement unit 0..1 (R103). -/
def measSel (sel : BitVec 3) : Option (Fin 2) := if h : sel.toNat < 2 then some ⟨sel.toNat, h⟩ else none

/-- IMM where it meets a 32-bit quantity: zext_32 (R102). -/
def immWord (imm : Half) : Word := imm.setWidth 32

/-- MASK[MSEL], the mask a sequence unit writes through (R51, R201). -/
def seqMask (s : State) (j : Fin 2) : Word := s.maskReg (s.seqUnit j).msel.toFin

/-- TABLE[e] of a sequence unit. R201 asks `e < LEN`, so at most 15; a larger e would be taken modulo 16, and no caller
gives one (log entry 8). -/
def tableEntry (s : State) (j : Fin 2) (e : Nat) : Word := (s.seqUnit j).table[Fin.ofNat 16 e]

/-- LEN is one of 1..16 (R200). -/
def lenLegal (s : State) (j : Fin 2) : Bool := 1 ≤ (s.seqUnit j).len.toNat ∧ (s.seqUnit j).len.toNat ≤ 16

/-- `CUR mod LEN`, the cursor every SEQ.* action uses (R52). -/
def cursor (s : State) (j : Fin 2) : Nat := (s.seqUnit j).cur.toNat % (s.seqUnit j).len.toNat

/-- An action on a target: a SEL out of its range captures BADIDX and does nothing else (R103, R106; log entry 5). -/
def onTarget {α : Type} (i : Instr) (target : Option α) (s : State) (f : α → State) : Result :=
  match target with
  | none => .next (raiseByAction .badIdx i s)
  | some a => .next (f a)

/-- A SEQ.* action on a unit: SeqCheck first (R200), BADCFG when LEN is not in 1..16 and nothing else. -/
def onSeqUnit (i : Instr) (sel : BitVec 3) (s : State) (f : Fin 2 → State) : Result :=
  onTarget i (seqSel sel) s fun j => if lenLegal s j then f j else raiseByAction .badCfg i s

end Sys2Proof.Machine
end

