-- ==== Sys2Proof/Machine/MeasureActions.lean ====
section
/-! DEFINITION. The meanings of MEAS.* (45_period_measure.md, R271, R272). -/

namespace Sys2Proof.Machine

/-- `clamp(v, lo, hi) = max(lo, min(v, hi))`, so lo when lo > hi (R8, C8). -/
def clamp (v lo hi : Word) : Word :=
  let m := if v.toNat ≤ hi.toNat then v else hi
  if lo.toNat ≤ m.toNat then m else lo

/-- MEAS.CAP uN: LAST takes ACC, ACC restarts, PERIOD takes the clamped value (R271). -/
def execMeasCap (sel : BitVec 3) (s : State) : Result :=
  onTarget (.measCap sel) (measSel sel) s fun u =>
    let x := s.measUnit u
    s.setMeasUnit u { x with last := x.acc, acc := 0, period := clamp x.acc x.min x.max }

/-- MEAS.CLR uN: ACC restarts (R272). -/
def execMeasClr (sel : BitVec 3) (s : State) : Result :=
  onTarget (.measClr sel) (measSel sel) s fun u => s.setMeasUnit u { s.measUnit u with acc := 0 }

end Sys2Proof.Machine
end

