-- ==== Sys2Proof/Machine/Output.lean ====
section
/-! DEFINITION. The meanings of OUT.* and SEQ.* (43_output_sequence.md, R200 to R209). -/

namespace Sys2Proof.Machine

/-- OUT.SET mN (R202). -/
def execOutSet (sel : BitVec 3) (s : State) : Result :=
  onTarget (.outSet sel) (maskSel sel) s fun m => s.setOut (s.out ||| s.maskReg m)

/-- OUT.CLR mN (R203). -/
def execOutClr (sel : BitVec 3) (s : State) : Result :=
  onTarget (.outClr sel) (maskSel sel) s fun m => s.setOut (s.out &&& ~~~(s.maskReg m))

/-- OUT.TGL mN (R204). -/
def execOutTgl (sel : BitVec 3) (s : State) : Result :=
  onTarget (.outTgl sel) (maskSel sel) s fun m => s.setOut (s.out ^^^ s.maskReg m)

/-- `Apply(j, e)`: entry e onto the unit's owned bits, clear and set in one update (R201). -/
def applyEntry (j : Fin 2) (e : Nat) (s : State) : State :=
  s.setOut ((s.out &&& ~~~(seqMask s j)) ||| (tableEntry s j e &&& seqMask s j))

/-- SEQ.ADV sN: increment, then apply (R205). -/
def execSeqAdv (sel : BitVec 3) (s : State) : Result :=
  onSeqUnit (.seqAdv sel) sel s fun j =>
    let c := (cursor s j + 1) % (s.seqUnit j).len.toNat
    applyEntry j c (s.setCursor j c)

/-- SEQ.STEP sN: apply, then increment (R206). -/
def execSeqStep (sel : BitVec 3) (s : State) : Result :=
  onSeqUnit (.seqStep sel) sel s fun j =>
    let c := cursor s j
    (applyEntry j c s).setCursor j ((c + 1) % (s.seqUnit j).len.toNat)

/-- SEQ.OVR sN: apply the last entry, LEN - 1, and set the cursor to 0 (R207). -/
def execSeqOvr (sel : BitVec 3) (s : State) : Result :=
  onSeqUnit (.seqOvr sel) sel s fun j => (applyEntry j ((s.seqUnit j).len.toNat - 1) s).setCursor j 0

/-- SEQ.SHOW sN, v: apply entry v mod LEN, the cursor stays (R208). -/
def execSeqShow (sel : BitVec 3) (imm : Half) (s : State) : Result :=
  onSeqUnit (.seqShow sel imm) sel s fun j => applyEntry j (imm.toNat % (s.seqUnit j).len.toNat) s

/-- SEQ.SETC sN, v: the cursor becomes v mod LEN, OUT stays (R209). -/
def execSeqSetc (sel : BitVec 3) (imm : Half) (s : State) : Result :=
  onSeqUnit (.seqSetc sel imm) sel s fun j => s.setCursor j (imm.toNat % (s.seqUnit j).len.toNat)

end Sys2Proof.Machine
end

