-- ==== Sys2Proof/Machine/Flags.lean ====
section
/-! DEFINITION. Everything computed on single bits: the flag register's updates and the gate (R291 to R294, R174), the
pending and missed bits (R27, R28, R175, R240), write-1-to-clear (R76), and the outputs (R136, R327). PTS has no
condition codes (R32): no action sets a flag as a side effect. -/

namespace Sys2Proof.Machine

/-- `v` with bit `k` set. -/
def setBit {n : Nat} (v : BitVec n) (k : Nat) : BitVec n := v ||| BitVec.twoPow n k

/-- `v` with bit `k` cleared. -/
def clearBit {n : Nat} (v : BitVec n) (k : Nat) : BitVec n := v &&& ~~~(BitVec.twoPow n k)

/-- Write-1-to-clear: a 1 in the written data clears its bit, a 0 leaves it (R76). -/
def w1c {n : Nat} (old written : BitVec n) : BitVec n := old &&& ~~~written

/-- `FLAGS | imm` (R291). -/
def flagsSet (flags imm : Half) : Half := flags ||| imm

/-- `FLAGS & ~imm` (R292). -/
def flagsClr (flags imm : Half) : Half := flags &&& ~~~imm

/-- `FLAGS ^ imm` (R293). -/
def flagsTgl (flags imm : Half) : Half := flags ^^^ imm

/-- Whether the gate lets a firing slot run its body (R174). -/
def gateOpen (s : State) (k : Fin 4) : Bool :=
  !(s.task k).ctrl.gateEn || s.flags.getLsbD (s.task k).ctrl.gateFlag.toNat

/-- PEND.TICK <- 1 (R154). -/
def pendTick (s : State) : State := s.setPend { s.pend with tick := true }

/-- PEND.TASK[k] <- 1 (R175). -/
def pendTask (s : State) (k : Fin 4) : State := s.setPend { s.pend with task := setBit s.pend.task k.val }

/-- PEND.LINE[i] <- 1 (R240). -/
def pendLine (s : State) (i : Fin 4) : State := s.setPend { s.pend with line := setBit s.pend.line i.val }

/-- PEND.LINE[i] <- 0 (R245). -/
def unpendLine (s : State) (i : Fin 4) : State := s.setPend { s.pend with line := clearBit s.pend.line i.val }

/-- MISSED.TICK_OVR <- 1 (R154). -/
def missTick (s : State) : State := s.setMissed { s.missed with tickOvr := true }

/-- MISSED.LINE[i] <- 1 (R240). -/
def missLine (s : State) (i : Fin 4) : State := s.setMissed { s.missed with line := setBit s.missed.line i.val }

/-- MISSED.LINE[i] <- 0 (R245). -/
def unmissLine (s : State) (i : Fin 4) : State := s.setMissed { s.missed with line := clearBit s.missed.line i.val }

/-- PEND.LINE[i] (R27). -/
def linePending (s : State) (i : Fin 4) : Bool := s.pend.line.getLsbD i.val

/-! The outputs, functions of the state (R136). -/

/-- `pin_out = OUT` (R34, R136). -/
def pinOut (s : State) : Word := s.out

/-- `irq_tick = PEND.TICK & TICK_CTRL.TICKINT` (R327). -/
def irqTick (s : State) : Bool := s.pend.tick && s.tickCtrl.tickInt

/-- `irq_task[k] = PEND.TASK[k] & TASK[k].CTRL.IRQEN` (R327). -/
def irqTask (s : State) (k : Fin 4) : Bool := s.pend.task.getLsbD k.val && (s.task k).ctrl.irqEn

/-- `irq_line[i] = PEND.LINE[i] & LINE[i].CTRL.IRQEN` (R327). -/
def irqLine (s : State) (i : Fin 4) : Bool := s.pend.line.getLsbD i.val && (s.line i).ctrl.irqEn

/-- `irq_err = PEND.ERR` (R327). -/
def irqErr (s : State) : Bool := s.pend.err

/-- `bus_rsp` of the latest step (R22, R72). -/
def busRsp (s : State) : BusResponse := s.rsp

end Sys2Proof.Machine
end

