-- ==== Sys2Proof/Machine/Shared.lean ====
section
/-! DEFINITION. The meanings of NOP, FLAG.* and CNT.* (46_shared_state.md, R290 to R299). -/

namespace Sys2Proof.Machine

/-- NOP: no state changes (R290). -/
def execNop (s : State) : Result := .next s

/-- FLAG.SET imm (R291). -/
def execFlagSet (imm : Half) (s : State) : Result := .next (s.setFlags (flagsSet s.flags imm))

/-- FLAG.CLR imm (R292). -/
def execFlagClr (imm : Half) (s : State) : Result := .next (s.setFlags (flagsClr s.flags imm))

/-- FLAG.TGL imm (R293). -/
def execFlagTgl (imm : Half) (s : State) : Result := .next (s.setFlags (flagsTgl s.flags imm))

/-- FLAG.LD imm (R294). -/
def execFlagLd (imm : Half) (s : State) : Result := .next (s.setFlags imm)

/-- `((x mod w) + 1) mod w`, where w = 0 stands for 2^32 (R298). -/
def incWrap (x : Word) (w : Half) : Word :=
  if w = 0 then x + 1 else BitVec.ofNat 32 ((x.toNat % w.toNat + 1) % w.toNat)

/-- `x mod w` one down, from 0 to w - 1, where w = 0 stands for 2^32 (R299). -/
def decWrap (x : Word) (w : Half) : Word :=
  if w = 0 then x - 1
  else if x.toNat % w.toNat = 0 then BitVec.ofNat 32 (w.toNat - 1)
  else BitVec.ofNat 32 (x.toNat % w.toNat - 1)

/-- CNT.ADD cN, imm: modulo 2^32, no carry and no error (R295). -/
def execCntAdd (sel : BitVec 3) (imm : Half) (s : State) : Result :=
  onTarget (.cntAdd sel imm) (counterSel sel) s fun c => s.setCounter c (s.counter c + immWord imm)

/-- CNT.SUB cN, imm: modulo 2^32, no borrow and no error (R296). -/
def execCntSub (sel : BitVec 3) (imm : Half) (s : State) : Result :=
  onTarget (.cntSub sel imm) (counterSel sel) s fun c => s.setCounter c (s.counter c - immWord imm)

/-- CNT.LD cN, imm (R297). -/
def execCntLd (sel : BitVec 3) (imm : Half) (s : State) : Result :=
  onTarget (.cntLd sel imm) (counterSel sel) s fun c => s.setCounter c (immWord imm)

/-- CNT.INCW cN, w (R298). -/
def execCntIncw (sel : BitVec 3) (imm : Half) (s : State) : Result :=
  onTarget (.cntIncw sel imm) (counterSel sel) s fun c => s.setCounter c (incWrap (s.counter c) imm)

/-- CNT.DECW cN, w (R299). -/
def execCntDecw (sel : BitVec 3) (imm : Half) (s : State) : Result :=
  onTarget (.cntDecw sel imm) (counterSel sel) s fun c => s.setCounter c (decWrap (s.counter c) imm)

end Sys2Proof.Machine
end

