-- ==== Sys2Proof/Machine/TaskActions.lean ====
section
/-! DEFINITION. The meanings of TASK.* (42_scheduler.md, R182 to R185) and the two ways a count is set, which the bus
writes of R180 and R181 share. -/

namespace Sys2Proof.Machine

/-- The count that starts a whole period: RELOAD in COUNTDOWN mode, 0 in TRACK mode (R181, R182). -/
def periodStart (t : Task) : Word :=
  match t.ctrl.mode with
  | .countdown => t.reload
  | .track => 0

/-- A count to be stored: at most RELOAD in COUNTDOWN mode, as given in TRACK mode (R180, R183). -/
def countWithin (t : Task) (v : Word) : Word :=
  match t.ctrl.mode with
  | .countdown => if v.toNat ≤ t.reload.toNat then v else t.reload
  | .track => v

/-- TASK.RST tN (R182). -/
def execTaskRst (sel : BitVec 3) (s : State) : Result :=
  onTarget (.taskRst sel) (taskSel sel) s fun k => s.setCount k (periodStart (s.task k))

/-- TASK.SETC tN, v (R183). -/
def execTaskSetc (sel : BitVec 3) (imm : Half) (s : State) : Result :=
  onTarget (.taskSetc sel imm) (taskSel sel) s fun k => s.setCount k (countWithin (s.task k) (immWord imm))

/-- TASK.EN tN (R184). -/
def execTaskEn (sel : BitVec 3) (s : State) : Result :=
  onTarget (.taskEn sel) (taskSel sel) s fun k => s.setTaskEn k true

/-- TASK.DIS tN (R185). -/
def execTaskDis (sel : BitVec 3) (s : State) : Result :=
  onTarget (.taskDis sel) (taskSel sel) s fun k => s.setTaskEn k false

end Sys2Proof.Machine
end

