-- ==== Sys2Proof/Machine/TickActions.lean ====
section
/-! DEFINITION. The meaning of TICK.CLR (41_tick_source.md, R158). -/

namespace Sys2Proof.Machine

/-- TICK.CLR: TICK_CURRENT becomes 0; no tick and no pending bit (R158). -/
def execTickClr (s : State) : Result := .next (s.setTickCurrent 0)

end Sys2Proof.Machine
end

