-- ==== Sys2Proof/Machine/Dispatch.lean ====
section
/-! DEFINITION. The dispatch of action words to their rules (R135): one arm per constructor of Instr. -/

namespace Sys2Proof.Machine

/-- The effect of one decoded action word, in the name of the state's requester (R135). -/
def exec (i : Instr) (s : State) : Host.Outcome State Fault Refusal :=
  match i with
  | .nop => Sys2Proof.Machine.execNop s
  | .flagSet imm => Sys2Proof.Machine.execFlagSet imm s
  | .flagClr imm => Sys2Proof.Machine.execFlagClr imm s
  | .flagTgl imm => Sys2Proof.Machine.execFlagTgl imm s
  | .flagLd imm => Sys2Proof.Machine.execFlagLd imm s
  | .cntAdd sel imm => Sys2Proof.Machine.execCntAdd sel imm s
  | .cntSub sel imm => Sys2Proof.Machine.execCntSub sel imm s
  | .cntLd sel imm => Sys2Proof.Machine.execCntLd sel imm s
  | .cntIncw sel imm => Sys2Proof.Machine.execCntIncw sel imm s
  | .cntDecw sel imm => Sys2Proof.Machine.execCntDecw sel imm s
  | .outSet sel => Sys2Proof.Machine.execOutSet sel s
  | .outClr sel => Sys2Proof.Machine.execOutClr sel s
  | .outTgl sel => Sys2Proof.Machine.execOutTgl sel s
  | .seqAdv sel => Sys2Proof.Machine.execSeqAdv sel s
  | .seqStep sel => Sys2Proof.Machine.execSeqStep sel s
  | .seqOvr sel => Sys2Proof.Machine.execSeqOvr sel s
  | .seqShow sel imm => Sys2Proof.Machine.execSeqShow sel imm s
  | .seqSetc sel imm => Sys2Proof.Machine.execSeqSetc sel imm s
  | .taskRst sel => Sys2Proof.Machine.execTaskRst sel s
  | .taskSetc sel imm => Sys2Proof.Machine.execTaskSetc sel imm s
  | .taskEn sel => Sys2Proof.Machine.execTaskEn sel s
  | .taskDis sel => Sys2Proof.Machine.execTaskDis sel s
  | .tickClr => Sys2Proof.Machine.execTickClr s
  | .measCap sel => Sys2Proof.Machine.execMeasCap sel s
  | .measClr sel => Sys2Proof.Machine.execMeasClr sel s

end Sys2Proof.Machine
end

