-- ==== Sys2Proof/Machine/ActionExec.lean ====
section
/-! DEFINITION. Executing an action word in a requester's name (R135), the one way CMD, task bodies and line actions
run. -/

namespace Sys2Proof.Machine

/-- The kind of error a rejected word raises (R105, R106, R320). -/
def decodeCause (e : DecodeError) : ErrCause :=
  match e with
  | .badOp => .badOp
  | .badFmt => .badFmt
  | .badIdx => .badIdx

/-- Run an update in a requester's name; the name does not outlive the update (R56, R135; log entry 4). -/
def asRequester (src : Source) (idx : Fin 4) (f : State → Result) (s : State) : Result :=
  andThen (f (s.setRequester { src := src, idx := idx })) fun t => .next (t.setRequester s.requester)

/-- `Exec(w, src, idx)` (R135): a word Decode rejects only captures its error (R106), any other runs. -/
def execWord (w : Word) (src : Source) (idx : Fin 4) (s : State) : Result :=
  match decode w with
  | .error e => .next (raiseError (decodeCause e) src idx w s)
  | .ok i => asRequester src idx (exec i) s

end Sys2Proof.Machine
end

