-- ==== Sys2Proof/Machine/RegisterMap.lean ====
section
/-! DEFINITION. The register window: the complete map of R78, the packing of fields into words, and `RegRead` (R73). -/

namespace Sys2Proof.Machine

/-- The registers of the window (R78). -/
inductive Reg where
  | id
  | tickCtrl
  | tickReload
  | tickCurrent
  | ticks
  | pend
  | missed
  | ovrCnt
  | errCode
  | errInfo
  | cmd
  | flags
  | out
  | pins
  | cnt (c : Fin 4)
  | mask (m : Fin 8)
  | taskCtrl (k : Fin 4)
  | taskReload (k : Fin 4)
  | taskCount (k : Fin 4)
  | taskAction (k : Fin 4)
  | lineCtrl (i : Fin 4)
  | lineDebounce (i : Fin 4)
  | lineAct0 (i : Fin 4)
  | lineAct1 (i : Fin 4)
  | lineStat (i : Fin 4)
  | measAcc (u : Fin 2)
  | measLast (u : Fin 2)
  | measPeriod (u : Fin 2)
  | measMin (u : Fin 2)
  | measMax (u : Fin 2)
  | seqCtrl (j : Fin 2)
  | seqCur (j : Fin 2)
  | seqTable (j : Fin 2) (e : Fin 16)
deriving DecidableEq, Repr

/-- The offset of a register (R78). -/
def Reg.offset (r : Reg) : Nat :=
  match r with
  | .id => 0x000
  | .tickCtrl => 0x004
  | .tickReload => 0x008
  | .tickCurrent => 0x00C
  | .ticks => 0x010
  | .pend => 0x014
  | .missed => 0x018
  | .ovrCnt => 0x01C
  | .errCode => 0x020
  | .errInfo => 0x024
  | .cmd => 0x028
  | .flags => 0x02C
  | .out => 0x030
  | .pins => 0x034
  | .cnt c => 0x040 + 4 * c.val
  | .mask m => 0x060 + 4 * m.val
  | .taskCtrl k => 0x100 + 0x20 * k.val
  | .taskReload k => 0x100 + 0x20 * k.val + 0x4
  | .taskCount k => 0x100 + 0x20 * k.val + 0x8
  | .taskAction k => 0x100 + 0x20 * k.val + 0xC
  | .lineCtrl i => 0x200 + 0x20 * i.val
  | .lineDebounce i => 0x200 + 0x20 * i.val + 0x4
  | .lineAct0 i => 0x200 + 0x20 * i.val + 0x8
  | .lineAct1 i => 0x200 + 0x20 * i.val + 0xC
  | .lineStat i => 0x200 + 0x20 * i.val + 0x10
  | .measAcc u => 0x300 + 0x20 * u.val
  | .measLast u => 0x300 + 0x20 * u.val + 0x4
  | .measPeriod u => 0x300 + 0x20 * u.val + 0x8
  | .measMin u => 0x300 + 0x20 * u.val + 0xC
  | .measMax u => 0x300 + 0x20 * u.val + 0x10
  | .seqCtrl j => 0x400 + 0x100 * j.val
  | .seqCur j => 0x400 + 0x100 * j.val + 0x4
  | .seqTable j e => 0x400 + 0x100 * j.val + 0x40 + 4 * e.val

/-- The registers below 0x040, by offset (R78). -/
def blockReg (a : Nat) : Option Reg :=
  match a with
  | 0x000 => some .id
  | 0x004 => some .tickCtrl
  | 0x008 => some .tickReload
  | 0x00C => some .tickCurrent
  | 0x010 => some .ticks
  | 0x014 => some .pend
  | 0x018 => some .missed
  | 0x01C => some .ovrCnt
  | 0x020 => some .errCode
  | 0x024 => some .errInfo
  | 0x028 => some .cmd
  | 0x02C => some .flags
  | 0x030 => some .out
  | 0x034 => some .pins
  | _ => none

/-- The registers of task slot k, by offset in the slot (R78). -/
def taskReg (k : Fin 4) (a : Nat) : Option Reg :=
  match a with
  | 0x0 => some (.taskCtrl k)
  | 0x4 => some (.taskReload k)
  | 0x8 => some (.taskCount k)
  | 0xC => some (.taskAction k)
  | _ => none

/-- The registers of line i, by offset in the line (R78). -/
def lineReg (i : Fin 4) (a : Nat) : Option Reg :=
  match a with
  | 0x0 => some (.lineCtrl i)
  | 0x4 => some (.lineDebounce i)
  | 0x8 => some (.lineAct0 i)
  | 0xC => some (.lineAct1 i)
  | 0x10 => some (.lineStat i)
  | _ => none

/-- The registers of measurement unit u, by offset in the unit (R78). -/
def measReg (u : Fin 2) (a : Nat) : Option Reg :=
  match a with
  | 0x0 => some (.measAcc u)
  | 0x4 => some (.measLast u)
  | 0x8 => some (.measPeriod u)
  | 0xC => some (.measMin u)
  | 0x10 => some (.measMax u)
  | _ => none

/-- The registers of sequence unit j, by offset in the unit (R78). -/
def seqReg (j : Fin 2) (a : Nat) : Option Reg :=
  if a = 0x0 then some (.seqCtrl j)
  else if a = 0x4 then some (.seqCur j)
  else if 0x40 ≤ a ∧ a < 0x80 then some (.seqTable j (Fin.ofNat 16 ((a - 0x40) / 4)))
  else none

/-- The register at a word-aligned offset of the window, none where the offset is unmapped (R77, R78). -/
def regAt (a : Nat) : Option Reg :=
  if a % 4 ≠ 0 then none
  else if a < 0x40 then blockReg a
  else if a < 0x50 then some (.cnt (Fin.ofNat 4 ((a - 0x40) / 4)))
  else if a < 0x60 then none
  else if a < 0x80 then some (.mask (Fin.ofNat 8 ((a - 0x60) / 4)))
  else if a < 0x100 then none
  else if a < 0x180 then taskReg (Fin.ofNat 4 ((a - 0x100) / 0x20)) ((a - 0x100) % 0x20)
  else if a < 0x200 then none
  else if a < 0x280 then lineReg (Fin.ofNat 4 ((a - 0x200) / 0x20)) ((a - 0x200) % 0x20)
  else if a < 0x300 then none
  else if a < 0x340 then measReg (Fin.ofNat 2 ((a - 0x300) / 0x20)) ((a - 0x300) % 0x20)
  else if a < 0x400 then none
  else if a < 0x600 then seqReg (Fin.ofNat 2 ((a - 0x400) / 0x100)) ((a - 0x400) % 0x100)
  else none

/-! Fields as bits. -/

/-- ERR_CODE.CODE (R320). -/
def ErrCause.bits (c : ErrCause) : BitVec 4 :=
  match c with
  | .none => 0
  | .badOp => 1
  | .badFmt => 2
  | .badIdx => 3
  | .badCfg => 4
  | .badReload => 5
  | .access => 6

/-- ERR_CODE.SRC (R30). -/
def Source.bits (c : Source) : BitVec 3 :=
  match c with
  | .cmd => 0
  | .task => 1
  | .line0 => 2
  | .line1 => 3
  | .bus => 4
  | .tickCfg => 5

/-- TASK[k].CTRL.MODE (R37). -/
def TaskMode.bit (m : TaskMode) : Bool :=
  match m with
  | .countdown => false
  | .track => true

/-- TASK[k].CTRL.MODE of a written bit (R37). -/
def TaskMode.ofBit (b : Bool) : TaskMode := if b then .track else .countdown

/-- LINE[i].CTRL.SENSE (R42, R231). -/
def Sense.bits (x : Sense) : BitVec 2 :=
  match x with
  | .fall => 0
  | .rise => 1
  | .low => 2
  | .high => 3

/-- LINE[i].CTRL.SENSE of written bits (R42, R231). -/
def Sense.ofBits (v : BitVec 2) : Sense :=
  match v.toNat with
  | 0 => .fall
  | 1 => .rise
  | 2 => .low
  | _ => .high

/-- DBST of LINE[i].STAT (R45). -/
def Debounce.dbst (d : Debounce) : BitVec 2 :=
  match d with
  | .idle => 0
  | .settle _ => 1
  | .hold => 2

/-- DBCNT of LINE[i].STAT: the remaining settle ticks, 0 unless SETTLE (R45). -/
def Debounce.dbcnt (d : Debounce) : Half :=
  match d with
  | .idle => 0
  | .settle c => c
  | .hold => 0

/-- A flag as one bit. -/
def bit (b : Bool) : BitVec 1 := BitVec.ofBool b

/-- TICK_CTRL as a word (R23). -/
def TickCtrl.word (c : TickCtrl) : Word := 0#29 ++ bit c.dispatch ++ bit c.tickInt ++ bit c.en

/-- TICK_CTRL of written data (R23). -/
def TickCtrl.ofWord (v : Word) : TickCtrl :=
  { en := v.getLsbD 0, tickInt := v.getLsbD 1, dispatch := v.getLsbD 2 }

/-- PEND as a word (R27). -/
def Pend.word (p : Pend) : Word := 0#16 ++ bit p.err ++ 0#3 ++ p.line ++ p.task ++ 0#3 ++ bit p.tick

/-- MISSED as a word (R28). -/
def Missed.word (m : Missed) : Word := 0#20 ++ m.line ++ 0#7 ++ bit m.tickOvr

/-- ERR_CODE as a word (R30). -/
def ErrCode.word (e : ErrCode) : Word :=
  0#15 ++ bit e.multi ++ 0#6 ++ BitVec.ofNat 2 e.idx.val ++ 0#1 ++ e.src.bits ++ e.code.bits

/-- IN: the synchronised level of each line (R35). -/
def pinsWord (s : State) : Word :=
  0#28 ++ bit (s.line 3).sync2 ++ bit (s.line 2).sync2 ++ bit (s.line 1).sync2 ++ bit (s.line 0).sync2

/-- TASK[k].CTRL as a word (R37). -/
def TaskCtrl.word (c : TaskCtrl) : Word :=
  0#23 ++ c.msel ++ c.gateFlag ++ bit c.gateEn ++ bit c.irqEn ++ bit c.mode.bit ++ bit c.en

/-- TASK[k].CTRL of written data (R37). -/
def TaskCtrl.ofWord (v : Word) : TaskCtrl :=
  { en := v.getLsbD 0
    mode := TaskMode.ofBit (v.getLsbD 1)
    irqEn := v.getLsbD 2
    gateEn := v.getLsbD 3
    gateFlag := v.extractLsb' 4 4
    msel := v.extractLsb' 8 1 }

/-- LINE[i].CTRL as a word (R42). -/
def LineCtrl.word (c : LineCtrl) : Word :=
  0#22 ++ c.prio ++ 0#3 ++ bit c.actEn ++ bit c.irqEn ++ c.sense.bits ++ bit c.en

/-- LINE[i].CTRL of written data (R42). -/
def LineCtrl.ofWord (v : Word) : LineCtrl :=
  { en := v.getLsbD 0
    sense := Sense.ofBits (v.extractLsb' 1 2)
    irqEn := v.getLsbD 3
    actEn := v.getLsbD 4
    prio := v.extractLsb' 8 2 }

/-- LINE[i].STAT as a word (R45). -/
def Debounce.word (d : Debounce) : Word := d.dbcnt ++ 0#14 ++ d.dbst

/-- SEQ[j].CTRL as a word (R51). -/
def seqCtrlWord (q : SeqUnit) : Word := 0#21 ++ q.msel ++ 0#3 ++ q.len

/-- The ID register, "PTS" and version 1 (R57). -/
def idWord : Word := 0x50545301

/-- `RegRead` of a register: its value with every reserved bit 0; CMD reads 0 (R73, R76). -/
def regRead (r : Reg) (s : State) : Word :=
  match r with
  | .id => idWord
  | .tickCtrl => s.tickCtrl.word
  | .tickReload => 0#8 ++ s.tickReload
  | .tickCurrent => 0#8 ++ s.tickCurrent
  | .ticks => s.ticks
  | .pend => s.pend.word
  | .missed => s.missed.word
  | .ovrCnt => s.ovrCnt
  | .errCode => s.errCode.word
  | .errInfo => s.errInfo
  | .cmd => 0
  | .flags => 0#16 ++ s.flags
  | .out => s.out
  | .pins => pinsWord s
  | .cnt c => s.counter c
  | .mask m => s.maskReg m
  | .taskCtrl k => (s.task k).ctrl.word
  | .taskReload k => (s.task k).reload
  | .taskCount k => (s.task k).count
  | .taskAction k => (s.task k).action
  | .lineCtrl i => (s.line i).ctrl.word
  | .lineDebounce i => 0#16 ++ (s.line i).debounce
  | .lineAct0 i => (s.line i).act0
  | .lineAct1 i => (s.line i).act1
  | .lineStat i => (s.line i).db.word
  | .measAcc u => (s.measUnit u).acc
  | .measLast u => (s.measUnit u).last
  | .measPeriod u => (s.measUnit u).period
  | .measMin u => (s.measUnit u).min
  | .measMax u => (s.measUnit u).max
  | .seqCtrl j => seqCtrlWord (s.seqUnit j)
  | .seqCur j => 0#28 ++ (s.seqUnit j).cur
  | .seqTable j e => (s.seqUnit j).table[e]

/-- `RegRead(s, addr)` at an offset of the window; an unmapped offset reads 0 (R73, R77). -/
def windowRead (s : State) (a : Nat) : Word :=
  match regAt a with
  | none => 0
  | some r => regRead r s

/-- The byte at an offset of the window, little-endian (R71). Bus accesses move whole words only (R75). -/
def windowByte (s : State) (a : Nat) : Byte := (windowRead s (a / 4 * 4)).extractLsb' (8 * (a % 4)) 8

/-- The bus address of an offset of the window (R70, R6). -/
def busAddress (a : Nat) : Nat := Config.ptsBase + a

end Sys2Proof.Machine
end

