-- ==== Sys2Proof/Machine/Bus.lean ====
section
/-! DEFINITION. Bus accesses (20_memory.md): `RegWrite` with its side effects (R74, R76, R80) and `BusAccess` (R75). -/

namespace Sys2Proof.Machine

/-- BADRELOAD when a write leaves EN = 1 with RELOAD = 0; the write has taken effect (R155). -/
def checkReload (v : Word) (s : State) : State :=
  if s.tickCtrl.en && s.tickReload == 0 then raiseError .badReload .tickCfg 0 v s else s

/-- A write of TICK_CTRL (R23, R155). -/
def writeTickCtrl (v : Word) (s : State) : State := checkReload v (s.setTickCtrl (TickCtrl.ofWord v))

/-- A write of TICK_RELOAD keeps bits 23:0 (R24, R155). -/
def writeTickReload (v : Word) (s : State) : State := checkReload v (s.setTickReload (v.extractLsb' 0 24))

/-- A write of PEND: W1C, and bit 15 also clears ERR_CODE and ERR_INFO (R27, R30). -/
def writePend (v : Word) (s : State) : State :=
  let t := s.setPend
    { s.pend with
      tick := s.pend.tick && !(v.getLsbD 0)
      task := w1c s.pend.task (v.extractLsb' 4 4)
      line := w1c s.pend.line (v.extractLsb' 8 4) }
  if v.getLsbD 15 then clearError t else t

/-- A write of MISSED: W1C (R28). -/
def writeMissed (v : Word) (s : State) : State :=
  s.setMissed
    { tickOvr := s.missed.tickOvr && !(v.getLsbD 0)
      line := w1c s.missed.line (v.extractLsb' 8 4) }

/-- A write of TASK[k].CTRL; a change of MODE starts a period (R181). -/
def writeTaskCtrl (k : Fin 4) (v : Word) (s : State) : State :=
  let t := { s.task k with ctrl := TaskCtrl.ofWord v }
  if t.ctrl.mode = (s.task k).ctrl.mode then s.setTask k t else s.setTask k { t with count := periodStart t }

/-- A write of TASK[k].RELOAD; in COUNTDOWN mode COUNT takes the data too (R180). -/
def writeTaskReload (k : Fin 4) (v : Word) (s : State) : State :=
  match (s.task k).ctrl.mode with
  | .countdown => s.setTask k { s.task k with reload := v, count := v }
  | .track => s.setTask k { s.task k with reload := v }

/-- A write of TASK[k].COUNT, at most RELOAD in COUNTDOWN mode (R180). -/
def writeTaskCount (k : Fin 4) (v : Word) (s : State) : State := s.setCount k (countWithin (s.task k) v)

/-- A write of LINE[i].CTRL; a change of SENSE clears PEND.LINE[i], MISSED.LINE[i] and the debounce state (R245). -/
def writeLineCtrl (i : Fin 4) (v : Word) (s : State) : State :=
  let l := { s.line i with ctrl := LineCtrl.ofWord v }
  if l.ctrl.sense = (s.line i).ctrl.sense then s.setLine i l
  else unmissLine (unpendLine (s.setLine i { l with db := .idle }) i) i

/-- A write of SEQ[j].CTRL (R51): any LEN 0..31 is stored. -/
def writeSeqCtrl (j : Fin 2) (v : Word) (s : State) : State :=
  s.setSeqUnit j { s.seqUnit j with len := v.extractLsb' 0 5, msel := v.extractLsb' 8 3 }

/-- A write of SEQ[j].TABLE[e] (R53). -/
def writeSeqTable (j : Fin 2) (e : Fin 16) (v : Word) (s : State) : State :=
  s.setSeqUnit j { s.seqUnit j with table := (s.seqUnit j).table.set e v }

/-- `RegWrite` of a register (R74): each field by its kind (R76), the side effects of R80. RO registers keep their value;
a write of CMD executes the data as an action word (R310). -/
def regWrite (r : Reg) (v : Word) (s : State) : Result :=
  match r with
  | .id => .next s
  | .tickCtrl => .next (writeTickCtrl v s)
  | .tickReload => .next (writeTickReload v s)
  | .tickCurrent => .next (s.setTickCurrent 0)
  | .ticks => .next (s.setTicks v)
  | .pend => .next (writePend v s)
  | .missed => .next (writeMissed v s)
  | .ovrCnt => .next (s.setOvrCnt v)
  | .errCode => .next s
  | .errInfo => .next s
  | .cmd => execWord v .cmd 0 s
  | .flags => .next (s.setFlags (v.extractLsb' 0 16))
  | .out => .next (s.setOut v)
  | .pins => .next s
  | .cnt c => .next (s.setCounter c v)
  | .mask m => .next (s.setMaskReg m v)
  | .taskCtrl k => .next (writeTaskCtrl k v s)
  | .taskReload k => .next (writeTaskReload k v s)
  | .taskCount k => .next (writeTaskCount k v s)
  | .taskAction k => .next (s.setTask k { s.task k with action := v })
  | .lineCtrl i => .next (writeLineCtrl i v s)
  | .lineDebounce i => .next (s.setLine i { s.line i with debounce := v.extractLsb' 0 16 })
  | .lineAct0 i => .next (s.setLine i { s.line i with act0 := v })
  | .lineAct1 i => .next (s.setLine i { s.line i with act1 := v })
  | .lineStat _ => .next s
  | .measAcc u => .next (s.setMeasUnit u { s.measUnit u with acc := v })
  | .measLast _ => .next s
  | .measPeriod u => .next (s.setMeasUnit u { s.measUnit u with period := v })
  | .measMin u => .next (s.setMeasUnit u { s.measUnit u with min := v })
  | .measMax u => .next (s.setMeasUnit u { s.measUnit u with max := v })
  | .seqCtrl j => .next (writeSeqCtrl j v s)
  | .seqCur j => .next (s.setSeqUnit j { s.seqUnit j with cur := v.extractLsb' 0 4 })
  | .seqTable j e => .next (writeSeqTable j e v s)

/-- `RegWrite(addr, v)`: an unmapped offset ignores the write (R74, R77). -/
def windowWrite (a : Nat) (v : Word) (s : State) : Result :=
  match regAt a with
  | none => .next s
  | some r => regWrite r v s

/-- Only an aligned word access is permitted (R75). -/
def permitted (q : BusRequest) : Bool := q.size == .word && q.addr.toNat % 4 == 0

/-- `BusAccess(req)` (R75); the response stands in `rsp` (log entry 3). Nothing of the step has been written before
phase 1, so a read sees the state at the start of the step (R73). -/
def busAccess (req : Option BusRequest) (s : State) : Result :=
  match req with
  | none => .next (s.setRsp { rdata := 0, error := false })
  | some q =>
    if permitted q = false then
      .next ((raiseError .access .bus 0 (q.addr.setWidth 32) s).setRsp { rdata := 0, error := true })
    else if q.write then
      andThen (windowWrite q.addr.toNat q.wdata s) fun t => .next (t.setRsp { rdata := 0, error := false })
    else .next (s.setRsp { rdata := windowRead s q.addr.toNat, error := false })

/-- The input that writes an action word to CMD, its pins at the levels last sampled (R310; log entry 9). -/
def cmdInput (w : Word) (s : State) : Input :=
  { rst := false
    pins := bit (s.line 3).sync1 ++ bit (s.line 2).sync1 ++ bit (s.line 1).sync1 ++ bit (s.line 0).sync1
    req := some { write := true, addr := BitVec.ofNat 12 (Reg.offset .cmd), size := .word, wdata := w } }

end Sys2Proof.Machine
end

