-- ==== Sys2Proof/Machine/Lines.lean ====
section
/-! DEFINITION. The edge lines (44_edge_demux.md): sampling and detection (R230 to R234), debounce (R239), pending and
missed (R240), line order (R243) and line actions (R241). -/

namespace Sys2Proof.Machine

/-- The active level A of a sense (R231). -/
def activeLevel (x : Sense) : Bool :=
  match x with
  | .fall => false
  | .rise => true
  | .low => false
  | .high => true

/-- Whether a sense is level mode (R231). -/
def levelMode (x : Sense) : Bool :=
  match x with
  | .fall => false
  | .rise => false
  | .low => true
  | .high => true

/-- The raw event of R231, from the synchronised level before and after this step's shift. -/
def rawEvent (x : Sense) (old2 new2 : Bool) : Bool :=
  match x with
  | .fall => old2 && !new2
  | .rise => !old2 && new2
  | .low => false
  | .high => false

/-- `Settle` (R239): the next debounce state, and whether the event is confirmed in this step. `active` says that the
synchronised input is at the active level. -/
def settle (db : Debounce) (d : Half) (raw active tick : Bool) : Debounce × Bool :=
  match db with
  | .idle => (if raw then .settle d else .idle, false)
  | .settle c =>
    if tick = false then (.settle c, false)
    else if 1 < c.toNat then (.settle (c - 1), false)
    else if active then (.hold, true)
    else (.idle, false)
  | .hold => (if active then .hold else .idle, false)

/-- The debounce state after this step and whether the line has a qualifying event (R232, R233, R234, R236, R239).
`startD` is the line's DEBOUNCE at the start of the step: in the step that writes 0 over a D ≥ 1 the settle machine still
decides the event, R233 applies from the next step, and DB is IDLE from there (R239; log entry 7). -/
def detect (l : Line) (startD : Half) (old2 new2 tick : Bool) : Debounce × Bool :=
  if l.ctrl.en = false then (.idle, false)
  else if levelMode l.ctrl.sense then (.idle, new2 == activeLevel l.ctrl.sense)
  else if l.debounce = 0 ∧ startD = 0 then (.idle, rawEvent l.ctrl.sense old2 new2)
  else
    let r := settle l.db l.debounce (rawEvent l.ctrl.sense old2 new2) (new2 == activeLevel l.ctrl.sense) tick
    (if l.debounce = 0 then .idle else r.1, r.2)

/-- Line i after its synchroniser's shift and its detection in one step (R230, R236). -/
def sampledLine (l : Line) (startD : Half) (pin tick : Bool) : Line :=
  { l with sync2 := l.sync1, sync1 := pin, db := (detect l startD l.sync2 l.sync1 tick).1 }

/-- What a qualifying event of line i records (R240): MISSED in edge mode when the bit was already set, and PEND. -/
def recordEvent (i : Fin 4) (s : State) : State :=
  if !(levelMode (s.line i).ctrl.sense) && linePending s i then pendLine (missLine s i) i else pendLine s i

/-- Whether an event of line i runs its actions (R240): ACTEN, and in level mode only when PEND.LINE[i] was 0. -/
def runsActions (i : Fin 4) (s : State) : Bool :=
  (s.line i).ctrl.actEn && !(levelMode (s.line i).ctrl.sense && linePending s i)

/-- The sampling of one line (R230 to R240): whether its actions are to run, and the state. `start` holds the lines as
they were at the start of the step (the snapshot of R131). -/
def sampleLine (i : Fin 4) (pins : BitVec 4) (tick : Bool) (start : Vector Line 4) (s : State) : Bool × State :=
  let event := (detect (s.line i) start[i].debounce (s.line i).sync2 (s.line i).sync1 tick).2
  let t := s.setLine i (sampledLine (s.line i) start[i].debounce (pins.getLsbD i.val) tick)
  if event then (runsActions i t, recordEvent i t) else (false, t)

/-- `LineSample(pin_in, tick)` for lines 0 to 3 (R131, R134): which lines fire, and the state. -/
def lineSample (pins : BitVec 4) (tick : Bool) (start : Vector Line 4) (s : State) : Vector Bool 4 × State :=
  let r0 := sampleLine 0 pins tick start s
  let r1 := sampleLine 1 pins tick start r0.2
  let r2 := sampleLine 2 pins tick start r1.2
  let r3 := sampleLine 3 pins tick start r2.2
  (#v[r0.1, r1.1, r2.1, r3.1], r3.2)

/-- `LineOrder()` (R243): PRIO from 3 down to 0, and within one PRIO the index from 3 down to 0. -/
def lineOrder (s : State) : List (Fin 4) :=
  [3, 2, 1, 0].flatMap fun (p : Nat) => [3, 2, 1, 0].filter fun i => (s.line i).ctrl.prio.toNat = p

/-- The two actions of line i, ACT0 then ACT1; an error in ACT0 does not stop ACT1 (R241). -/
def lineActions (i : Fin 4) (s : State) : Result :=
  andThen (execWord (s.line i).act0 .line0 i s) fun t => execWord (t.line i).act1 .line1 i t

/-- Phase 4 (R131): sampling, then the actions of the firing lines in line order. -/
def linePhase (pins : BitVec 4) (tick : Bool) (start : Vector Line 4) (s : State) : Result :=
  let r := lineSample pins tick start s
  forEach (lineOrder r.2) (fun i t => if r.1[i] then lineActions i t else .next t) r.2

end Sys2Proof.Machine
end

