-- ==== Sys2Proof/Machine/TickSource.lean ====
section
/-! DEFINITION. The tick source (41_tick_source.md): counting (R150) and the consequences of a tick (R154, R270). -/

namespace Sys2Proof.Machine

/-- `TickCount()` (R150): whether this step is a tick, and the state with the counter moved. Where RELOAD is set to 0
with CURRENT ≥ 1, the words "never ticks" of R155 meet R150, R156 and R157, by which the running count still ends in one
tick; the model's choice is R150 (log entry 18). -/
def tickCount (s : State) : Bool × State :=
  if s.tickCtrl.en = false then (false, s)
  else if s.tickCurrent = 0 then (false, s.setTickCurrent s.tickReload)
  else (s.tickCurrent - 1 == 0, s.setTickCurrent (s.tickCurrent - 1))

/-- One up, saturating at 2^32 - 1 (R154, R270). -/
def saturatingInc (x : Word) : Word := if x = 0xFFFFFFFF then x else x + 1

/-- `AccTick(m)` (R270). -/
def accTick (u : Fin 2) (s : State) : State :=
  s.setMeasUnit u { s.measUnit u with acc := saturatingInc (s.measUnit u).acc }

/-- The overrun record of a tick that finds PEND.TICK still set (R154). -/
def recordOverrun (s : State) : State :=
  if s.pend.tick then (missTick s).setOvrCnt (saturatingInc s.ovrCnt) else s

/-- `TickEvent()` (R154). -/
def tickEvent (s : State) : State :=
  accTick 1 (accTick 0 (pendTick (recordOverrun (s.setTicks (s.ticks + 1)))))

end Sys2Proof.Machine
end

