-- ==== Sys2Proof/Machine/Scheduler.lean ====
section
/-! DEFINITION. The cooperative task scheduler (42_scheduler.md R170 to R179) and TRACK mode (45_period_measure.md
R276). -/

namespace Sys2Proof.Machine

/-- `Fire(k)` (R173): gated off, nothing (R174); else PEND.TASK[k] is set (R175) and the body executes. -/
def fire (k : Fin 4) (s : State) : Result :=
  if gateOpen s k then execWord (s.task k).action .task k (pendTask s k) else .next s

/-- The COUNTDOWN half of `EvalTask(k)` (R172): test, then fire and reload, or decrement. -/
def evalCountdown (k : Fin 4) (s : State) : Result :=
  if (s.task k).count = 0 then andThen (fire k s) fun t => .next (t.setCount k (t.task k).reload)
  else .next (s.setCount k ((s.task k).count - 1))

/-- `EvalTrack(k)` (R276): `sub = COUNT + 1` is an unbounded number, compared with the unit's PERIOD of this moment. -/
def evalTrack (k : Fin 4) (s : State) : Result :=
  if (s.measUnit (s.task k).ctrl.msel.toFin).period.toNat ≤ (s.task k).count.toNat + 1 then
    andThen (fire k s) fun t => .next (t.setCount k 0)
  else .next (s.setCount k ((s.task k).count + 1))

/-- `EvalTask(k)` (R172, R179, R276). -/
def evalTask (k : Fin 4) (s : State) : Result :=
  if (s.task k).ctrl.en = false then .next s
  else
    match (s.task k).ctrl.mode with
    | .track => evalTrack k s
    | .countdown => evalCountdown k s

/-- Phase 3 of a tick (R131, R170, R171): bookkeeping, then the slots 0, 1, 2, 3 when DISPATCH = 1. -/
def tickPhase (s : State) : Result :=
  let t := tickEvent s
  if t.tickCtrl.dispatch then forEach [0, 1, 2, 3] evalTask t else .next t

end Sys2Proof.Machine
end

