-- ==== Sys2Proof/Machine/Phases.lean ====
section
/-! DEFINITION. One step of the block for a given input: reset, or the four phases in their order (R131, R132). -/

namespace Sys2Proof.Machine

/-- Phases 2 to 4 of a step (R131): the tick counter, the consequences of a tick, the edge lines. `start` holds the
lines as they were at the start of the step. -/
def afterBus (pins : BitVec 4) (start : Vector Line 4) (s : State) : Result :=
  let c := tickCount s
  andThen (if c.1 then tickPhase c.2 else .next c.2) (linePhase pins c.1 start)

/-- `Step(s, rst, pin_in, req)` (R131, R132). -/
def blockStep (i : Input) (s : State) : Result :=
  if i.rst then .next s.toReset else andThen (busAccess i.req s) (afterBus i.pins s.lines)

end Sys2Proof.Machine
end

