-- ==== Sys2Proof/Machine/Step.lean ====
section
/-! DEFINITION. One step of the machine: the block's step (R131) on the next input of the environment (R130). -/

namespace Sys2Proof.Machine

/-- One clock edge: take the coming input and run the block's step on it (R11, R130, R131). -/
def step (s : State) : Host.Outcome State Fault Refusal := blockStep s.nextInput s.takeInput

/-- `s` with a CMD write of the action word `w` (bits from `nbits` on are 0) as the input of the next step, before the
inputs already listed: PTS fetches nothing (R20), an action word comes to run by a bus write to CMD (R310; log entry
9). -/
def State.withFetchWord (s : State) (nbits w : Nat) : State :=
  { s with inputs := cmdInput (BitVec.ofNat 32 (w % 2 ^ nbits)) s :: s.inputs }

end Sys2Proof.Machine
end

