-- ==== Sys2Proof/Safety.lean ====
section
/-! DEFINITION. The terms the statements use: which states are legal (each an invariant of a run), what it is to be
encoded as a rule says, and the iterations of the tick counter and of a slot. -/

namespace Sys2Proof.Machine

/-- No error is captured: the mark 93_implementation_defined.md gives a model is PEND.ERR = 1 or ERR_CODE.MULTI = 1. -/
def errorFree (s : State) : Bool := !s.pend.err && !s.errCode.multi

/-- R41: in COUNTDOWN mode COUNT is at most RELOAD. -/
def CountsWithinReload (s : State) : Prop :=
  ∀ k : Fin 4, (s.task k).ctrl.mode = .countdown → (s.task k).count.toNat ≤ (s.task k).reload.toNat

/-- R55: a settle count is at least 1. -/
def SettleCountsPositive (s : State) : Prop := ∀ (i : Fin 4) (c : Half), (s.line i).db = .settle c → 1 ≤ c.toNat

/-- R232, R233, R234: a line that is disabled, in level mode or without debounce has DB IDLE. -/
def InactiveLinesIdle (s : State) : Prop :=
  ∀ i : Fin 4,
    (s.line i).ctrl.en = false ∨ (s.line i).ctrl.sense = .low ∨ (s.line i).ctrl.sense = .high ∨ (s.line i).debounce = 0 →
      (s.line i).db = .idle

/-- R30, R31, R322: without a captured error ERR_CODE and ERR_INFO are 0; with one, CODE is not NONE; IDX is 0 unless
SRC is a task or a line action. -/
def ErrorRecordLegal (s : State) : Prop :=
  (s.pend.err = false → s.errCode = { code := .none, src := .cmd, idx := 0, multi := false } ∧ s.errInfo = 0) ∧
    (s.pend.err = true → s.errCode.code ≠ .none) ∧
    (s.errCode.src = .cmd ∨ s.errCode.src = .bus ∨ s.errCode.src = .tickCfg → s.errCode.idx = 0)

/-- The words of an opcode without a target or an immediate: `base` alone, every other word with its OP is BADFMT. -/
def BareForm (op : BitVec 5) (base : Word) (i : Instr) : Prop :=
  decode base = .ok i ∧ ∀ w, opField w = op → w ≠ base → decode w = .error .badFmt

/-- The words of FLAG.*: `base + imm`; BADFMT when SEL ≠ 0 or RSV ≠ 0. -/
def FlagForm (op : BitVec 5) (base : Word) (mk : Half → Instr) : Prop :=
  (∀ imm : Half, decode (base + imm.setWidth 32) = .ok (mk imm)) ∧
    ∀ w, opField w = op → selField w ≠ 0 ∨ rsvField w ≠ 0 → decode w = .error .badFmt

/-- The words of an opcode with a target and an immediate: `base + N·0x0100_0000 + imm` for N below `limit`; BADFMT when
RSV ≠ 0, else BADIDX when N is not below `limit`. -/
def ImmediateForm (op : BitVec 5) (base : Word) (limit : Nat) (mk : BitVec 3 → Half → Instr) : Prop :=
  (∀ (n : BitVec 3) (imm : Half), n.toNat < limit →
      decode (base + n.setWidth 32 * 0x01000000 + imm.setWidth 32) = .ok (mk n imm)) ∧
    ∀ w, opField w = op →
      (rsvField w ≠ 0 → decode w = .error .badFmt) ∧
        (rsvField w = 0 → limit ≤ (selField w).toNat → decode w = .error .badIdx)

/-- The words of an opcode with a target and no immediate: `base + N·0x0100_0000` for N below `limit`; BADFMT when
IMM ≠ 0 or RSV ≠ 0, else BADIDX when N is not below `limit`. -/
def TargetForm (op : BitVec 5) (base : Word) (limit : Nat) (mk : BitVec 3 → Instr) : Prop :=
  (∀ n : BitVec 3, n.toNat < limit → decode (base + n.setWidth 32 * 0x01000000) = .ok (mk n)) ∧
    ∀ w, opField w = op →
      (immField w ≠ 0 ∨ rsvField w ≠ 0 → decode w = .error .badFmt) ∧
        (immField w = 0 → rsvField w = 0 → limit ≤ (selField w).toNat → decode w = .error .badIdx)

/-- The state after `n` runs of TickCount (R150) and nothing else. -/
def afterCounts (n : Nat) (s : State) : State :=
  match n with
  | 0 => s
  | m + 1 => (tickCount (afterCounts m s)).2

/-- Whether run `n + 1` of TickCount from `s` is a tick. -/
def ticksAt (n : Nat) (s : State) : Bool := (tickCount (afterCounts n s)).1

/-- `n` evaluations of slot k (R172), one per dispatched tick, and nothing else. -/
def evalTimes (k : Fin 4) (n : Nat) (s : State) : Result :=
  match n with
  | 0 => .next s
  | m + 1 => andThen (evalTask k s) (evalTimes k m)

/-- The word is no FLAG.* action. -/
def NotFlagWord (w : Word) : Prop :=
  ∀ i, decode w = .ok i →
    i.opcode ≠ .flagSet ∧ i.opcode ≠ .flagClr ∧ i.opcode ≠ .flagTgl ∧ i.opcode ≠ .flagLd

/-- The step's request writes nothing: there is none, or it is a read. -/
def NoBusWrite (i : Input) : Prop := ∀ q, i.req = some q → q.write = false

/-- The register's write stores its fields and has no other effect: it is none of the registers with a write side effect
of R80 among those that a read gives back. -/
def PlainWrite (r : Reg) : Prop :=
  r ≠ .tickCtrl ∧ r ≠ .tickReload ∧ ∀ n : Fin 4, r ≠ .taskCtrl n ∧ r ≠ .taskReload n ∧ r ≠ .lineCtrl n

/-- No register but `r` reads another value, and what no register shows (SYNC1, the model's own fields) is the same. -/
def OnlyRegisterChanges (r : Reg) (s t : State) : Prop :=
  (∀ r', r' ≠ r → regRead r' t = regRead r' s) ∧ (∀ i : Fin 4, (t.line i).sync1 = (s.line i).sync1) ∧
    t.requester = s.requester ∧ t.rsp = s.rsp ∧ t.inputs = s.inputs ∧ t.time = s.time

/-- The registers only the bus may write (R23, R24, R36 to R38, R40, R42 to R44, R49 to R51, R53) agree; of a slot's CTRL
all but EN, which TASK.EN and TASK.DIS write. -/
def SameConfiguration (s t : State) : Prop :=
  t.tickCtrl = s.tickCtrl ∧ t.tickReload = s.tickReload ∧ t.mask = s.mask ∧
    (∀ k : Fin 4,
      (t.task k).reload = (s.task k).reload ∧ (t.task k).action = (s.task k).action ∧
        { (t.task k).ctrl with en := false } = { (s.task k).ctrl with en := false }) ∧
    (∀ i : Fin 4,
      (t.line i).ctrl = (s.line i).ctrl ∧ (t.line i).debounce = (s.line i).debounce ∧
        (t.line i).act0 = (s.line i).act0 ∧ (t.line i).act1 = (s.line i).act1) ∧
    (∀ u : Fin 2, (t.measUnit u).min = (s.measUnit u).min ∧ (t.measUnit u).max = (s.measUnit u).max) ∧
    ∀ j : Fin 2,
      (t.seqUnit j).len = (s.seqUnit j).len ∧ (t.seqUnit j).msel = (s.seqUnit j).msel ∧
        (t.seqUnit j).table = (s.seqUnit j).table

end Sys2Proof.Machine
end

