-- ==== Sys2Proof/Certificates/Slice0/Obligations.lean ====
section
/-! DEFINITION. The statements for the provers, in the order of OBLIGATIONS.json: encoding, the actions family by family,
errors, the bus, the tick source, the scheduler, the lines, the whole step, invariants. A next state written
`{ s with … }` says at once what changes and that nothing else does. -/

open Sys2Proof Sys2Proof.Machine

/-! Encoding (30_encoding.md). -/

/-- R101, R104, R105: decoding the word of a well-formed instruction gives it back, at every operand. -/
def Obligations.DecodeOfEncode : Prop := ∀ i, WellFormed i = true → decode (encode i) = .ok i

/-- R101, R105: a word that decodes is the word of its instruction, and that instruction is well-formed. -/
def Obligations.EncodeOfDecode : Prop := ∀ w i, decode w = .ok i → WellFormed i = true ∧ encode i = w

/-- R104: a word is an instruction of an opcode exactly when its bits under the mask match and SEL is in range. -/
def Obligations.DecodeMatchesTableRows : Prop :=
  ∀ (w : Word) (o : Opcode),
    (∃ i, decode w = .ok i ∧ i.opcode = o) ↔
      w &&& o.maskWord = o.matchWord ∧ (selField w).toNat < o.kind.range

/-- R105: the checks in their order, on the word as a number. The opcodes without a target are 0x00 to 0x04 and 0x16,
those with an immediate 0x01 to 0x09, 0x10, 0x11 and 0x13 (R104), the ranges of SEL those of R103. -/
def Obligations.DecodeChecksInOrder : Prop :=
  ∀ w : Word,
    let op := w.toNat / 2 ^ 27
    let sel := w.toNat / 2 ^ 24 % 8
    let rsv := w.toNat / 2 ^ 16 % 256
    let imm := w.toNat % 2 ^ 16
    let noTarget := op ≤ 0x04 ∨ op = 0x16
    let hasImm := (0x01 ≤ op ∧ op ≤ 0x09) ∨ op = 0x10 ∨ op = 0x11 ∨ op = 0x13
    let range :=
      if op ≤ 0x09 then 4 else if op ≤ 0x0C then 8 else if op ≤ 0x11 then 2 else if op ≤ 0x15 then 4 else 2
    if 0x19 ≤ op then decode w = .error .badOp
    else if rsv ≠ 0 then decode w = .error .badFmt
    else if noTarget ∧ sel ≠ 0 then decode w = .error .badFmt
    else if ¬hasImm ∧ imm ≠ 0 then decode w = .error .badFmt
    else if range ≤ sel then decode w = .error .badIdx
    else ∃ i, decode w = .ok i ∧ i.opcode.number.toNat = op ∧ i.sel.toNat = sel ∧ i.imm.toNat = imm

/-- R109, R290: words of the spec decode to what it says they are, one or more of every family. -/
def Obligations.SpecWordsDecode : Prop :=
  decode 0x28000001 = .ok (.cntAdd 0 1) ∧ decode 0x62000000 = .ok (.outTgl 2) ∧
    decode 0x8100000B = .ok (.seqShow 1 11) ∧ decode 0x90000000 = .ok (.taskRst 0) ∧
    decode 0x18000001 = .ok (.flagTgl 1) ∧ decode 0xB8000000 = .ok (.measCap 0) ∧
    decode 0xB0000000 = .ok .tickClr ∧ decode 0x00000000 = .ok .nop

/-! Actions (41 to 46). -/

/-- R290, R158: NOP and TICK.CLR, their words and effects. -/
def Obligations.NopAndTickClrEffects : Prop :=
  BareForm 0x00 0x00000000 .nop ∧ BareForm 0x16 0xB0000000 .tickClr ∧
    ∀ s, exec .nop s = .next s ∧ exec .tickClr s = .next { s with tickCurrent := 0 }

/-- R291 to R294: the FLAG actions, their words, errors and effects; two equal toggles cancel. -/
def Obligations.FlagActionEffects : Prop :=
  FlagForm 0x01 0x08000000 .flagSet ∧ FlagForm 0x02 0x10000000 .flagClr ∧ FlagForm 0x03 0x18000000 .flagTgl ∧
    FlagForm 0x04 0x20000000 .flagLd ∧
    ∀ (s : State) (imm : Half),
      exec (.flagSet imm) s = .next { s with flags := s.flags ||| imm } ∧
        exec (.flagClr imm) s = .next { s with flags := s.flags &&& ~~~imm } ∧
        exec (.flagTgl imm) s = .next { s with flags := s.flags ^^^ imm } ∧
        exec (.flagLd imm) s = .next { s with flags := imm } ∧
        andThen (exec (.flagTgl imm) s) (exec (.flagTgl imm)) = .next s

/-- R295, R296, R297: CNT.ADD, CNT.SUB and CNT.LD, their words, errors and effects, modulo 2^32. -/
def Obligations.CounterArithmeticEffects : Prop :=
  ImmediateForm 0x05 0x28000000 4 .cntAdd ∧ ImmediateForm 0x06 0x30000000 4 .cntSub ∧
    ImmediateForm 0x07 0x38000000 4 .cntLd ∧
    ∀ (s : State) (n : BitVec 3) (imm : Half) (h : n.toNat < 4),
      exec (.cntAdd n imm) s =
          .next { s with cnt := s.cnt.set n.toNat (BitVec.ofNat 32 (s.cnt[n.toNat].toNat + imm.toNat)) } ∧
        exec (.cntSub n imm) s =
          .next { s with cnt := s.cnt.set n.toNat (BitVec.ofNat 32 (s.cnt[n.toNat].toNat + 2 ^ 32 - imm.toNat)) } ∧
        exec (.cntLd n imm) s = .next { s with cnt := s.cnt.set n.toNat (BitVec.ofNat 32 imm.toNat) }

/-- R298, R299: CNT.INCW and CNT.DECW, their words, errors and effects; an increment then a decrement gives a value below
the modulus back. -/
def Obligations.CounterWrapEffects : Prop :=
  ImmediateForm 0x08 0x40000000 4 .cntIncw ∧ ImmediateForm 0x09 0x48000000 4 .cntDecw ∧
    ∀ (s : State) (n : BitVec 3) (imm : Half) (h : n.toNat < 4),
      let x := s.cnt[n.toNat].toNat
      let w := imm.toNat
      exec (.cntIncw n imm) s =
          .next { s with cnt := s.cnt.set n.toNat (BitVec.ofNat 32 (if w = 0 then x + 1 else (x % w + 1) % w)) } ∧
        exec (.cntDecw n imm) s =
          .next
            { s with
              cnt := s.cnt.set n.toNat
                (BitVec.ofNat 32 (if w = 0 then x + 2 ^ 32 - 1 else if x % w = 0 then w - 1 else x % w - 1)) } ∧
        (w = 0 ∨ x < w → andThen (exec (.cntIncw n imm) s) (exec (.cntDecw n imm)) = .next s)

/-- R202, R203, R204: the OUT actions, their words, errors and effects. -/
def Obligations.OutputActionEffects : Prop :=
  TargetForm 0x0A 0x50000000 8 .outSet ∧ TargetForm 0x0B 0x58000000 8 .outClr ∧ TargetForm 0x0C 0x60000000 8 .outTgl ∧
    ∀ (s : State) (n : BitVec 3) (h : n.toNat < 8),
      exec (.outSet n) s = .next { s with out := s.out ||| s.mask[n.toNat] } ∧
        exec (.outClr n) s = .next { s with out := s.out &&& ~~~s.mask[n.toNat] } ∧
        exec (.outTgl n) s = .next { s with out := s.out ^^^ s.mask[n.toNat] }

/-- R201, R205 to R209: the SEQ actions on a unit of legal length, their words and effects; M is the unit's mask, e the
entry shown. -/
def Obligations.SequenceActionEffects : Prop :=
  TargetForm 0x0D 0x68000000 2 .seqAdv ∧ TargetForm 0x0E 0x70000000 2 .seqStep ∧ TargetForm 0x0F 0x78000000 2 .seqOvr ∧
    ImmediateForm 0x10 0x80000000 2 .seqShow ∧ ImmediateForm 0x11 0x88000000 2 .seqSetc ∧
    ∀ (s : State) (n : BitVec 3) (imm : Half) (h : n.toNat < 2),
      let q := s.seqs[n.toNat]
      let L := q.len.toNat
      let M := s.maskReg q.msel.toFin
      let shown := fun e : Fin 16 => (s.out &&& ~~~M) ||| (q.table[e] &&& M)
      let moved := fun e : Nat => s.seqs.set n.toNat { q with cur := BitVec.ofNat 4 e }
      1 ≤ L → L ≤ 16 →
        (∃ e : Fin 16, e.val = (q.cur.toNat % L + 1) % L ∧
            exec (.seqAdv n) s = .next { s with out := shown e, seqs := moved e.val }) ∧
          (∃ e : Fin 16, e.val = q.cur.toNat % L ∧
            exec (.seqStep n) s = .next { s with out := shown e, seqs := moved ((e.val + 1) % L) }) ∧
          (∃ e : Fin 16, e.val = L - 1 ∧ exec (.seqOvr n) s = .next { s with out := shown e, seqs := moved 0 }) ∧
          (∃ e : Fin 16, e.val = imm.toNat % L ∧ exec (.seqShow n imm) s = .next { s with out := shown e }) ∧
          exec (.seqSetc n imm) s = .next { s with seqs := moved (imm.toNat % L) }

/-- R200: a SEQ action on a unit whose LEN is not in 1..16 raises BADCFG with its own requester and word, and changes
nothing else. -/
def Obligations.SequenceActionsNeedLegalLength : Prop :=
  ∀ (w : Word) (i : Instr) (j : Fin 2) (src : Source) (idx : Fin 4) (s : State),
    decode w = .ok i → i.opcode.kind = .seq → i.sel.toNat = j.val →
      (s.seqUnit j).len.toNat = 0 ∨ 16 < (s.seqUnit j).len.toNat →
        execWord w src idx s = .next (raiseError .badCfg src idx w s)

/-- R182, R183: TASK.RST and TASK.SETC, their words, errors and effects in both modes. -/
def Obligations.TaskCountActionEffects : Prop :=
  TargetForm 0x12 0x90000000 4 .taskRst ∧ ImmediateForm 0x13 0x98000000 4 .taskSetc ∧
    ∀ (s : State) (n : BitVec 3) (imm : Half) (h : n.toNat < 4),
      let t := s.tasks[n.toNat]
      let counted := fun v : Word => { s with tasks := s.tasks.set n.toNat { t with count := v } }
      (t.ctrl.mode = .countdown →
          exec (.taskRst n) s = .next (counted t.reload) ∧
            exec (.taskSetc n imm) s = .next (counted (BitVec.ofNat 32 (min imm.toNat t.reload.toNat)))) ∧
        (t.ctrl.mode = .track →
          exec (.taskRst n) s = .next (counted 0) ∧
            exec (.taskSetc n imm) s = .next (counted (BitVec.ofNat 32 imm.toNat)))

/-- R184, R185: TASK.EN and TASK.DIS, their words, errors and effects. -/
def Obligations.TaskEnableActionEffects : Prop :=
  TargetForm 0x14 0xA0000000 4 .taskEn ∧ TargetForm 0x15 0xA8000000 4 .taskDis ∧
    ∀ (s : State) (n : BitVec 3) (h : n.toNat < 4),
      let t := s.tasks[n.toNat]
      exec (.taskEn n) s = .next { s with tasks := s.tasks.set n.toNat { t with ctrl := { t.ctrl with en := true } } } ∧
        exec (.taskDis n) s =
          .next { s with tasks := s.tasks.set n.toNat { t with ctrl := { t.ctrl with en := false } } }

/-- R271, R272, R8: MEAS.CAP and MEAS.CLR, their words, errors and effects; the clamp is max(MIN, min(ACC, MAX)). -/
def Obligations.MeasureActionEffects : Prop :=
  TargetForm 0x17 0xB8000000 2 .measCap ∧ TargetForm 0x18 0xC0000000 2 .measClr ∧
    ∀ (s : State) (n : BitVec 3) (h : n.toNat < 2),
      let x := s.meas[n.toNat]
      exec (.measCap n) s =
          .next
            { s with
              meas := s.meas.set n.toNat
                { x with
                  last := x.acc
                  acc := 0
                  period := BitVec.ofNat 32 (max x.min.toNat (min x.acc.toNat x.max.toNat)) } } ∧
        exec (.measClr n) s = .next { s with meas := s.meas.set n.toNat { x with acc := 0 } }

/-- R103, R106: an action whose SEL is out of range captures BADIDX in its requester's name and changes nothing else. That
the meaning of such a term is this, and its word the information word, is the model's choice (log entries 5 and 6). -/
def Obligations.OutOfRangeTargetIsBadIdx : Prop :=
  ∀ (i : Instr) (s : State), WellFormed i = false →
    exec i s = .next (raiseError .badIdx s.requester.src s.requester.idx (encode i) s)

/-- R86, R138: every action answers a next state, in every state. -/
def Obligations.EveryActionCompletes : Prop := ∀ (i : Instr) (s : State), ∃ t, exec i s = .next t

/-- R210: an OUT action with mask M and a SEQ action of a unit whose mask is M leave OUT & ~M unchanged. -/
def Obligations.OutputActionsKeepForeignBits : Prop :=
  ∀ (i : Instr) (s t : State) (M : Word),
    (i.opcode.kind = .mask ∧ M = s.maskReg i.sel.toFin) ∨
        (i.opcode.kind = .seq ∧ ∃ j : Fin 2, j.val = i.sel.toNat ∧ M = s.maskReg (s.seqUnit j).msel.toFin) →
      exec i s = .next t → t.out &&& ~~~M = s.out &&& ~~~M

/-- R32, R33, R34 for actions: FLAGS, CNT and OUT change only by the actions named there. -/
def Obligations.SharedStateChangesOnlyByItsActions : Prop :=
  ∀ (i : Instr) (s t : State), exec i s = .next t →
    (i.opcode ∉ [Opcode.flagSet, .flagClr, .flagTgl, .flagLd] → t.flags = s.flags) ∧
      (i.opcode ∉ [Opcode.cntAdd, .cntSub, .cntLd, .cntIncw, .cntDecw] → t.cnt = s.cnt) ∧
      (i.opcode ∉ [Opcode.outSet, .outClr, .outTgl, .seqAdv, .seqStep, .seqOvr, .seqShow] → t.out = s.out)

/-- R53, R87: no action writes a configuration register, a table or an action register (TASK.EN and TASK.DIS write EN),
and none clears a pending bit. -/
def Obligations.ActionsKeepConfigurationAndPending : Prop :=
  ∀ (i : Instr) (s t : State), exec i s = .next t →
    SameConfiguration s t ∧ t.pend.tick = s.pend.tick ∧ t.pend.task = s.pend.task ∧ t.pend.line = s.pend.line ∧
      (s.pend.err = true → t.pend.err = true)

/-- R108: the same word means the same operation from every requester; they differ only in ERR_CODE. -/
def Obligations.RequesterShowsOnlyInErrorCode : Prop :=
  ∀ (w : Word) (src src' : Source) (idx idx' : Fin 4) (s t t' : State),
    execWord w src idx s = .next t → execWord w src' idx' s = .next t' → { t with errCode := t'.errCode } = t'

/-! Errors (60_exceptions.md). -/

/-- R322, R106: the first error is captured, a later one sets MULTI, and nothing else changes; a word Decode rejects has
no other effect than to raise its error with the word. -/
def Obligations.FirstErrorIsCaptured : Prop :=
  (∀ (code : ErrCause) (src : Source) (idx : Fin 4) (info : Word) (s : State),
    (s.pend.err = false →
        raiseError code src idx info s =
          { s with
            errCode := { code := code, src := src, idx := idx, multi := false }
            errInfo := info
            pend := { s.pend with err := true } }) ∧
      (s.pend.err = true → raiseError code src idx info s = { s with errCode := { s.errCode with multi := true } })) ∧
    ∀ (w : Word) (src : Source) (idx : Fin 4) (s : State),
      (decode w = .error .badOp → execWord w src idx s = .next (raiseError .badOp src idx w s)) ∧
        (decode w = .error .badFmt → execWord w src idx s = .next (raiseError .badFmt src idx w s)) ∧
        (decode w = .error .badIdx → execWord w src idx s = .next (raiseError .badIdx src idx w s))

/-- R327: the interrupt outputs as bits of the registers, and pin_out (R34, R136). -/
def Obligations.InterruptEquations : Prop :=
  ∀ s : State,
    irqTick s = ((regRead .pend s).getLsbD 0 && (regRead .tickCtrl s).getLsbD 1) ∧
      (∀ k : Fin 4, irqTask s k = ((regRead .pend s).getLsbD (4 + k.val) && (regRead (.taskCtrl k) s).getLsbD 2)) ∧
      (∀ i : Fin 4, irqLine s i = ((regRead .pend s).getLsbD (8 + i.val) && (regRead (.lineCtrl i) s).getLsbD 3)) ∧
      irqErr s = (regRead .pend s).getLsbD 15 ∧ pinOut s = regRead .out s

/-! The register window (20_memory.md). -/

/-- R78: every register stands at its offset inside the window, and no offset is two registers'. -/
def Obligations.RegisterMapIsOneToOne : Prop :=
  (∀ r : Reg, r.offset < 0x1000 ∧ regAt r.offset = some r) ∧ ∀ (a : Nat) (r : Reg), regAt a = some r → a = r.offset

/-- R76, R77: an offset no register stands at reads 0 and ignores writes, and a write of a read-only register changes
nothing (R57, R30, R31, R35, R45, R47). -/
def Obligations.UnmappedAndReadOnlyIgnoreWrites : Prop :=
  (∀ (a : Nat) (v : Word) (s : State), (∀ r : Reg, r.offset ≠ a) →
      windowRead s a = 0 ∧ windowWrite a v s = .next s) ∧
    ∀ (v : Word) (s : State) (r : Reg),
      r = .id ∨ r = .errCode ∨ r = .errInfo ∨ r = .pins ∨ (∃ i, r = .lineStat i) ∨ (∃ u, r = .measLast u) →
        windowWrite r.offset v s = .next s

/-- R75: an access that is not an aligned word is refused and only captures ACCESS. -/
def Obligations.IllegalAccessIsRefused : Prop :=
  ∀ (q : BusRequest) (s : State), q.size ≠ .word ∨ q.addr.toNat % 4 ≠ 0 →
    busAccess (some q) s =
      .next { raiseError .access .bus 0 (q.addr.setWidth 32) s with rsp := { rdata := 0, error := true } }

/-- R79, R73, R75: a permitted read changes no state, its response is the register's value; a step without a request
changes none either, and its response is 0 without an error. The response stands in `rsp` (log entry 3). -/
def Obligations.ReadsChangeNothing : Prop :=
  (∀ (q : BusRequest) (s : State), q.size = .word → q.addr.toNat % 4 = 0 → q.write = false →
      busAccess (some q) s = .next { s with rsp := { rdata := windowRead s q.addr.toNat, error := false } }) ∧
    ∀ s : State, busAccess none s = .next { s with rsp := { rdata := 0, error := false } }

/-- R74, R75: a permitted write is the register's write, with the response 0 without an error (in `rsp`, log entry 3).
R76, R80: for RW registers whose fields store the data, a write then a read gives the written bits of the fields and 0
elsewhere, and a write without a side effect changes no other register. -/
def Obligations.ReadAfterWriteGivesFields : Prop :=
  (∀ (q : BusRequest) (s : State), q.size = .word → q.addr.toNat % 4 = 0 → q.write = true →
      busAccess (some q) s =
        andThen (windowWrite q.addr.toNat q.wdata s) fun t => .next { t with rsp := { rdata := 0, error := false } }) ∧
  (∀ (r : Reg) (v : Word) (s : State), windowWrite r.offset v s = regWrite r v s ∧ windowRead s r.offset = regRead r s) ∧
  ∀ (v : Word) (s : State) (r : Reg) (fieldBits : Word),
    (fieldBits = 0xFFFFFFFF ∧
        (r = .ticks ∨ r = .ovrCnt ∨ r = .out ∨ (∃ c, r = .cnt c) ∨ (∃ m, r = .mask m) ∨ (∃ k, r = .taskReload k) ∨
          (∃ k, r = .taskAction k) ∨ (∃ i, r = .lineAct0 i) ∨ (∃ i, r = .lineAct1 i) ∨ (∃ u, r = .measAcc u) ∨
          (∃ u, r = .measPeriod u) ∨ (∃ u, r = .measMin u) ∨ (∃ u, r = .measMax u) ∨ ∃ j e, r = .seqTable j e)) ∨
      (fieldBits = 0x00FFFFFF ∧ r = .tickReload) ∨ (fieldBits = 0x0000FFFF ∧ (r = .flags ∨ ∃ i, r = .lineDebounce i)) ∨
      (fieldBits = 0x00000007 ∧ r = .tickCtrl) ∨ (fieldBits = 0x000001FF ∧ ∃ k, r = .taskCtrl k) ∨
      (fieldBits = 0x0000031F ∧ ∃ i, r = .lineCtrl i) ∨ (fieldBits = 0x0000071F ∧ ∃ j, r = .seqCtrl j) ∨
      (fieldBits = 0x0000000F ∧ ∃ j, r = .seqCur j) →
      ∃ t, regWrite r v s = .next t ∧ regRead r t = v &&& fieldBits ∧ (PlainWrite r → OnlyRegisterChanges r s t)

/-- R76, R27, R28, R30: PEND and MISSED are write-1-to-clear; bit 15 of PEND also clears ERR_CODE and ERR_INFO, and
without it they stay; nothing else changes. -/
def Obligations.PendingIsWriteOneToClear : Prop :=
  ∀ (v : Word) (s : State),
    (∃ p : Pend, p.word = s.pend.word &&& ~~~v ∧
        (v.getLsbD 15 = true →
          regWrite .pend v s =
            .next
              { s with pend := p, errCode := { code := .none, src := .cmd, idx := 0, multi := false }, errInfo := 0 }) ∧
        (v.getLsbD 15 = false → regWrite .pend v s = .next { s with pend := p })) ∧
      ∃ m : Missed, m.word = s.missed.word &&& ~~~v ∧ regWrite .missed v s = .next { s with missed := m }

/-- R155: a write that leaves EN = 1 with RELOAD = 0 takes effect and raises BADRELOAD with the written data; any other
write of the two registers raises nothing. R25, R151: a write of TICK_CURRENT with any data sets it to 0 and does nothing
else: no tick and no pending bit. -/
def Obligations.BadReloadIsReported : Prop :=
  ∀ (v : Word) (s : State),
    let control := { s with tickCtrl := { en := v.getLsbD 0, tickInt := v.getLsbD 1, dispatch := v.getLsbD 2 } }
    let reloaded := { s with tickReload := BitVec.ofNat 24 v.toNat }
    regWrite .tickCtrl v s =
        .next
          (if v.getLsbD 0 = true ∧ s.tickReload = 0 then raiseError .badReload .tickCfg 0 v control else control) ∧
      regWrite .tickReload v s =
        .next
          (if s.tickCtrl.en = true ∧ v.toNat % 2 ^ 24 = 0 then raiseError .badReload .tickCfg 0 v reloaded
          else reloaded) ∧
      regWrite .tickCurrent v s = .next { s with tickCurrent := 0 }

/-- R180: a write of RELOAD also sets COUNT in COUNTDOWN mode; a write of COUNT is clamped to RELOAD in COUNTDOWN mode. -/
def Obligations.TaskReloadAndCountWrites : Prop :=
  ∀ (k : Fin 4) (v : Word) (s : State),
    let t := s.tasks[k]
    (t.ctrl.mode = .countdown →
        regWrite (.taskReload k) v s = .next { s with tasks := s.tasks.set k { t with reload := v, count := v } } ∧
          regWrite (.taskCount k) v s =
            .next { s with tasks := s.tasks.set k { t with count := BitVec.ofNat 32 (min v.toNat t.reload.toNat) } }) ∧
      (t.ctrl.mode = .track →
        regWrite (.taskReload k) v s = .next { s with tasks := s.tasks.set k { t with reload := v } } ∧
          regWrite (.taskCount k) v s = .next { s with tasks := s.tasks.set k { t with count := v } })

/-- R181: a write of TASK[k].CTRL that changes MODE sets COUNT, to RELOAD for COUNTDOWN and to 0 for TRACK; one that keeps
MODE leaves COUNT. Bit 1 of the data is MODE (R37). -/
def Obligations.TaskModeChangeSetsCount : Prop :=
  ∀ (k : Fin 4) (v : Word) (s : State),
    let t := s.tasks[k]
    ∃ c : TaskCtrl, c.word = v &&& 0x000001FF ∧
      regWrite (.taskCtrl k) v s =
        .next
          { s with
            tasks := s.tasks.set k
              { t with
                ctrl := c
                count :=
                  if v.getLsbD 1 = true ∧ t.ctrl.mode = .countdown then 0
                  else if v.getLsbD 1 = false ∧ t.ctrl.mode = .track then t.reload
                  else t.count } }

/-- R245: a write of LINE[i].CTRL that changes SENSE (bits 2:1) clears PEND.LINE[i], MISSED.LINE[i] and DB[i]; one that
keeps SENSE does not. -/
def Obligations.SenseChangeClearsLine : Prop :=
  ∀ (i : Fin 4) (v : Word) (s : State),
    let l := s.lines[i]
    let one := BitVec.twoPow 4 i.val
    ∃ c : LineCtrl, c.word = v &&& 0x0000031F ∧
      regWrite (.lineCtrl i) v s =
        .next
          (if v.toNat / 2 % 4 = l.ctrl.sense.bits.toNat then { s with lines := s.lines.set i { l with ctrl := c } }
          else
            { s with
              lines := s.lines.set i { l with ctrl := c, db := .idle }
              pend := { s.pend with line := s.pend.line &&& ~~~one }
              missed := { s.missed with line := s.missed.line &&& ~~~one } })

/-! The tick source (41_tick_source.md). -/

/-- R150: TickCount, case by case. -/
def Obligations.TickCounterCounts : Prop :=
  ∀ s : State,
    (s.tickCtrl.en = false → tickCount s = (false, s)) ∧
      (s.tickCtrl.en = true → s.tickCurrent = 0 → tickCount s = (false, { s with tickCurrent := s.tickReload })) ∧
      (s.tickCtrl.en = true → 1 < s.tickCurrent.toNat →
        tickCount s = (false, { s with tickCurrent := BitVec.ofNat 24 (s.tickCurrent.toNat - 1) })) ∧
      (s.tickCtrl.en = true → s.tickCurrent.toNat = 1 → tickCount s = (true, { s with tickCurrent := 0 }))

/-- R159, R150: with EN = 1, RELOAD = R ≥ 1 and CURRENT = 0, the counter ticks exactly on every (R+1)-th count; with
RELOAD = 0 it never ticks. -/
def Obligations.TickPeriodIsReloadPlusOne : Prop :=
  ∀ (s : State) (n : Nat), s.tickCtrl.en = true → s.tickCurrent = 0 →
    (s.tickReload ≠ 0 → (ticksAt n s = true ↔ (n + 1) % (s.tickReload.toNat + 1) = 0)) ∧
      (s.tickReload = 0 → ticksAt n s = false)

/-- R154, R270: TickEvent: TICKS, the overrun record, PEND.TICK and both accumulators, and nothing else. -/
def Obligations.TickEventBookkeeping : Prop :=
  ∀ s : State,
    tickEvent s =
      { s with
        ticks := s.ticks + 1
        pend := { s.pend with tick := true }
        missed := if s.pend.tick then { s.missed with tickOvr := true } else s.missed
        ovrCnt := if s.pend.tick then BitVec.ofNat 32 (min (s.ovrCnt.toNat + 1) (2 ^ 32 - 1)) else s.ovrCnt
        meas := s.meas.map fun x => { x with acc := BitVec.ofNat 32 (min (x.acc.toNat + 1) (2 ^ 32 - 1)) } }

/-! The scheduler (42_scheduler.md, 45_period_measure.md). -/

/-- R170, R171: with DISPATCH = 1 a tick evaluates the slots 0, 1, 2, 3 in this order after the bookkeeping; with
DISPATCH = 0 it evaluates none. -/
def Obligations.DispatchEvaluatesSlotsInOrder : Prop :=
  ∀ s : State,
    (s.tickCtrl.dispatch = false → tickPhase s = .next (tickEvent s)) ∧
      (s.tickCtrl.dispatch = true →
        tickPhase s =
          andThen (evalTask 0 (tickEvent s)) fun s0 => andThen (evalTask 1 s0) fun s1 =>
            andThen (evalTask 2 s1) fun s2 => evalTask 3 s2)

/-- R172, R174, R179, R276: the evaluations that run no body: a disabled slot holds, a COUNTDOWN slot above 0 counts down,
a TRACK slot below PERIOD counts up, and a gated-off firing only restarts the count. -/
def Obligations.EvaluationsWithoutBody : Prop :=
  ∀ (k : Fin 4) (s : State),
    let t := s.tasks[k]
    let P := (s.measUnit t.ctrl.msel.toFin).period.toNat
    let counted := fun v : Nat => { s with tasks := s.tasks.set k { t with count := BitVec.ofNat 32 v } }
    let gatedOff := t.ctrl.gateEn = true ∧ s.flags.getLsbD t.ctrl.gateFlag.toNat = false
    (t.ctrl.en = false → evalTask k s = .next s) ∧
      (t.ctrl.en = true → t.ctrl.mode = .countdown → t.count ≠ 0 → evalTask k s = .next (counted (t.count.toNat - 1))) ∧
      (t.ctrl.en = true → t.ctrl.mode = .countdown → t.count = 0 → gatedOff →
        evalTask k s = .next (counted t.reload.toNat)) ∧
      (t.ctrl.en = true → t.ctrl.mode = .track → t.count.toNat + 1 < P →
        evalTask k s = .next (counted (t.count.toNat + 1))) ∧
      (t.ctrl.en = true → t.ctrl.mode = .track → P ≤ t.count.toNat + 1 → gatedOff → evalTask k s = .next (counted 0))

/-- R172, R173, R175, R178, R276: a firing that is not gated off sets PEND.TASK[k], executes ACTION in the slot's name
and then restarts the count, whatever the body is or fails with. -/
def Obligations.FiringRunsBodyThenReloads : Prop :=
  ∀ (k : Fin 4) (s : State),
    let x := s.task k
    x.ctrl.en = true → gateOpen s k = true →
      (x.ctrl.mode = .countdown ∧ x.count = 0) ∨
          (x.ctrl.mode = .track ∧ (s.measUnit x.ctrl.msel.toFin).period.toNat ≤ x.count.toNat + 1) →
        ∃ u t,
          execWord x.action .task k
              { s with pend := { s.pend with task := s.pend.task ||| BitVec.twoPow 4 k.val } } = .next u ∧
            evalTask k s = .next t ∧
            t = u.setCount k (match x.ctrl.mode with | .countdown => x.reload | .track => 0) ∧
            t.pend.task.getLsbD k.val = true

/-- R177: from COUNT = c, a COUNTDOWN slot counts down for c evaluations and fires on evaluation c + 1; shown with the
body NOP and an open gate. -/
def Obligations.CountdownFiresAfterCountTicks : Prop :=
  ∀ (k : Fin 4) (s : State),
    let x := s.tasks[k]
    let counted := fun v : Word => s.tasks.set k { x with count := v }
    x.ctrl.en = true → x.ctrl.mode = .countdown →
      (∀ n, n ≤ x.count.toNat → evalTimes k n s = .next { s with tasks := counted (BitVec.ofNat 32 (x.count.toNat - n)) }) ∧
        (x.action = 0 → gateOpen s k = true →
          evalTimes k (x.count.toNat + 1) s =
            .next
              { s with
                tasks := counted x.reload
                pend := { s.pend with task := s.pend.task ||| BitVec.twoPow 4 k.val } })

/-! The edge lines (44_edge_demux.md). `start` holds the lines as they were at the start of the step (R131). -/

/-- R232: a disabled line has no event and DB IDLE; its synchroniser runs, PEND and MISSED hold. -/
def Obligations.DisabledLineHasNoEvent : Prop :=
  ∀ (i : Fin 4) (pins : BitVec 4) (tick : Bool) (start : Vector Line 4) (s : State),
    let l := s.lines[i]
    l.ctrl.en = false →
      sampleLine i pins tick start s =
        (false,
          { s with lines := s.lines.set i { l with sync2 := l.sync1, sync1 := pins.getLsbD i.val, db := .idle } })

/-- R231, R233, R240: an enabled edge line without debounce: its event is the raw edge, recorded in PEND, in MISSED when
the bit was already set, and its actions run when ACTEN is 1. DEBOUNCE is 0 and was 0 at the start of the step; that a write
of 0 over a D ≥ 1 falls under DebouncedLineEvent in its own step is R239 as the model reads it (log entry 7). That DB
becomes IDLE where R233 says it stays IDLE is the model's reading, in states no run reaches (log entry 15). -/
def Obligations.EdgeLineEvent : Prop :=
  ∀ (i : Fin 4) (pins : BitVec 4) (tick : Bool) (start : Vector Line 4) (s : State),
    let l := s.lines[i]
    let one := BitVec.twoPow 4 i.val
    let event := (l.ctrl.sense = .fall ∧ l.sync2 = true ∧ l.sync1 = false) ∨
      (l.ctrl.sense = .rise ∧ l.sync2 = false ∧ l.sync1 = true)
    let shifted := { s with lines := s.lines.set i { l with sync2 := l.sync1, sync1 := pins.getLsbD i.val, db := .idle } }
    l.ctrl.en = true → l.debounce = 0 → start[i].debounce = 0 → (l.ctrl.sense = .fall ∨ l.ctrl.sense = .rise) →
      (event →
          sampleLine i pins tick start s =
            (l.ctrl.actEn,
              { shifted with
                pend := { s.pend with line := s.pend.line ||| one }
                missed :=
                  if s.pend.line.getLsbD i.val then { s.missed with line := s.missed.line ||| one } else s.missed })) ∧
        (¬event → sampleLine i pins tick start s = (false, shifted))

/-- R231, R234, R240: an enabled level line has an event in every step at its active level; it sets PEND, never MISSED,
and its actions run only when the bit was 0. DB becomes IDLE as in EdgeLineEvent (log entry 15). -/
def Obligations.LevelLineEvent : Prop :=
  ∀ (i : Fin 4) (pins : BitVec 4) (tick : Bool) (start : Vector Line 4) (s : State),
    let l := s.lines[i]
    let one := BitVec.twoPow 4 i.val
    let event := (l.ctrl.sense = .low ∧ l.sync1 = false) ∨ (l.ctrl.sense = .high ∧ l.sync1 = true)
    let shifted := { s with lines := s.lines.set i { l with sync2 := l.sync1, sync1 := pins.getLsbD i.val, db := .idle } }
    l.ctrl.en = true → (l.ctrl.sense = .low ∨ l.ctrl.sense = .high) →
      (event →
          sampleLine i pins tick start s =
            (l.ctrl.actEn && !s.pend.line.getLsbD i.val,
              { shifted with pend := { s.pend with line := s.pend.line ||| one } })) ∧
        (¬event → sampleLine i pins tick start s = (false, shifted))

/-- R239, R240: an enabled edge line with D ≥ 1, now or at the start of the step: the settle machine decides the next DB
and the event. In the step that writes D = 0 it still decides the event, and DB ends IDLE: the model's reading of "from the
next step" (log entry 7). -/
def Obligations.DebouncedLineEvent : Prop :=
  ∀ (i : Fin 4) (pins : BitVec 4) (tick : Bool) (start : Vector Line 4) (s : State),
    let l := s.lines[i]
    let one := BitVec.twoPow 4 i.val
    let active := (l.ctrl.sense = .fall ∧ l.sync1 = false) ∨ (l.ctrl.sense = .rise ∧ l.sync1 = true)
    let raw := active ∧ l.sync2 ≠ l.sync1
    let moved := fun d : Debounce =>
      { s with lines := s.lines.set i { l with sync2 := l.sync1, sync1 := pins.getLsbD i.val, db := if l.debounce = 0 then .idle else d } }
    let quiet := fun d : Debounce => sampleLine i pins tick start s = (false, moved d)
    l.ctrl.en = true → l.debounce ≠ 0 ∨ start[i].debounce ≠ 0 → (l.ctrl.sense = .fall ∨ l.ctrl.sense = .rise) →
      (l.db = .idle → (raw → quiet (.settle l.debounce)) ∧ (¬raw → quiet .idle)) ∧
        (∀ c, l.db = .settle c →
          (tick = false → quiet (.settle c)) ∧
            (tick = true → 1 < c.toNat → quiet (.settle (BitVec.ofNat 16 (c.toNat - 1)))) ∧
            (tick = true → c.toNat ≤ 1 → ¬active → quiet .idle) ∧
            (tick = true → c.toNat ≤ 1 → active →
              sampleLine i pins tick start s =
                (l.ctrl.actEn,
                  { moved .hold with
                    pend := { s.pend with line := s.pend.line ||| one }
                    missed :=
                      if s.pend.line.getLsbD i.val then { s.missed with line := s.missed.line ||| one }
                      else s.missed }))) ∧
        (l.db = .hold → (active → quiet .hold) ∧ (¬active → quiet .idle))

/-- R243: LineOrder lists the four lines, from the largest key (PRIO, index) to the smallest. -/
def Obligations.LineOrderIsByUrgency : Prop :=
  ∀ s : State,
    (lineOrder s).Perm [0, 1, 2, 3] ∧
      (lineOrder s).Pairwise fun a b =>
        4 * (s.line b).ctrl.prio.toNat + b.val < 4 * (s.line a).ctrl.prio.toNat + a.val

/-- R241: ACT0 runs before ACT1, and an error in ACT0 does not stop ACT1. R131, R134: the line phase samples the lines 0
to 3 once each, each on the state the one before left, and then runs the actions of exactly the firing lines, in the line
order of the sampled state. -/
def Obligations.BothLineActionsRun : Prop :=
  (∀ (i : Fin 4) (s : State),
    (∃ u, execWord (s.line i).act0 .line0 i s = .next u ∧ lineActions i s = execWord (s.line i).act1 .line1 i u) ∧
      ∀ e, decode (s.line i).act0 = .error e →
        lineActions i s = execWord (s.line i).act1 .line1 i (raiseError (decodeCause e) .line0 i (s.line i).act0 s)) ∧
    ∀ (pins : BitVec 4) (tick : Bool) (start : Vector Line 4) (s s1 s2 s3 u : State) (fire : Vector Bool 4),
      sampleLine 0 pins tick start s = (fire[0], s1) → sampleLine 1 pins tick start s1 = (fire[1], s2) →
        sampleLine 2 pins tick start s2 = (fire[2], s3) → sampleLine 3 pins tick start s3 = (fire[3], u) →
          linePhase pins tick start s =
            ((lineOrder u).filter fun i => fire[i]).foldl (fun done i => andThen done (lineActions i)) (.next u)

/-! The step (40_step.md). -/

/-- R131, R132, R135, R310: a step without a reset is the bus access and then phases 2 to 4: the tick counter, on a tick
and only then its consequences, then the lines. A step whose input is a CMD write of a word that decodes to i is exec of i
in CMD's name, then these phases; the response is that of a write. -/
def Obligations.StepRunsCommandWord : Prop :=
  (∀ s : State, s.nextInput.rst = false →
      step s = andThen (busAccess s.nextInput.req s.takeInput) (afterBus s.nextInput.pins s.lines)) ∧
  (∀ (pins : BitVec 4) (start : Vector Line 4) (s u : State),
      (tickCount s = (false, u) → afterBus pins start s = linePhase pins false start u) ∧
        (tickCount s = (true, u) → afterBus pins start s = andThen (tickPhase u) (linePhase pins true start))) ∧
  ∀ (s : State) (w : Word) (i : Instr) (pins : BitVec 4) (rest : List Input),
    decode w = .ok i →
      s.inputs =
          { rst := false, pins := pins, req := some { write := true, addr := 0x028, size := .word, wdata := w } } :: rest →
        step s =
          andThen
            (exec i { s with inputs := rest, time := s.time + 1, requester := { src := .cmd, idx := 0 } })
            fun u => afterBus pins s.lines { u with requester := s.requester, rsp := { rdata := 0, error := false } }

/-- The model's own reading of a loaded instruction (log entry 9): after withFetchWord the next step runs the decoded
instruction in CMD's name, with every pin at the level its SYNC1 holds. -/
def Obligations.FetchWordRunsNext : Prop :=
  ∀ (s : State) (w : Nat) (i : Instr), decodeTableWord 32 w = some i →
    ∃ pins : BitVec 4, (∀ k : Fin 4, pins.getLsbD k.val = (s.line k).sync1) ∧
      step (s.withFetchWord 32 w) =
        andThen (exec i { s with time := s.time + 1, requester := { src := .cmd, idx := 0 } })
          fun u => afterBus pins s.lines { u with requester := s.requester, rsp := { rdata := 0, error := false } }

/-- R132, R360, R361: a step with rst = 1 gives ResetState, whatever the request and the pins; only the model's record of
the environment goes on (log entry 12). -/
def Obligations.ResetStepGivesResetState : Prop :=
  ∀ s : State, s.nextInput.rst = true →
    step s = .next { State.reset with inputs := s.inputs.tail, time := s.time + 1 }

/-- R360, R54, R55: what ResetState holds, register by register of the window, its hidden state and the outputs; every
step with rst = 1 leaves a state that holds it. -/
def Obligations.ResetStateValues : Prop :=
  ∀ s : State, (s = State.reset ∨ ∃ s0, s0.nextInput.rst = true ∧ step s0 = .next s) →
    (∀ r : Reg,
        regRead r s =
          if r = .id then 0x50545301
          else if r = .pins then 0xF
          else if r = .measPeriod 0 ∨ r = .measPeriod 1 ∨ r = .measMax 0 ∨ r = .measMax 1 then 0xFFFFFFFF
          else 0) ∧
      (∀ i : Fin 4, (s.line i).sync1 = true ∧ (s.line i).sync2 = true ∧ (s.line i).db = .idle) ∧
      pinOut s = 0 ∧ irqTick s = false ∧ irqErr s = false ∧
      ∀ k : Fin 4, irqTask s k = false ∧ irqLine s k = false

/-- R131, R138: the block never halts; every state has a successor, for every input. -/
def Obligations.EveryStepHasSuccessor : Prop := ∀ s : State, ∃ t, step s = .next t

/-- R230: in every step that does not reset, every line's synchroniser shifts the sampled pin in, whatever LINE[i].CTRL
holds and whatever the step executes. -/
def Obligations.SynchronisersAlwaysShift : Prop :=
  ∀ s t : State, s.nextInput.rst = false → step s = .next t →
    ∀ i : Fin 4, (t.line i).sync2 = (s.line i).sync1 ∧ (t.line i).sync1 = s.nextInput.pins.getLsbD i.val

/-- R137, R154: a tick is never lost: in a step that ticks, TICKS counts it and PEND.TICK is 1 at the end, even when the
step's own request cleared the bit. -/
def Obligations.TickLeavesPending : Prop :=
  ∀ s u t : State, s.nextInput.rst = false → busAccess s.nextInput.req s.takeInput = .next u →
    (tickCount u).1 = true → step s = .next t → t.pend.tick = true ∧ t.ticks = u.ticks + 1

/-- R32: FLAGS change only through a bus write and the FLAG actions: a step without a reset and a bus write, in a state
none of whose action registers holds a FLAG word, keeps FLAGS. -/
def Obligations.FlagsChangeOnlyByFlagWordsOrBus : Prop :=
  ∀ s t : State, s.nextInput.rst = false → NoBusWrite s.nextInput →
    (∀ k : Fin 4, NotFlagWord (s.task k).action) →
      (∀ i : Fin 4, NotFlagWord (s.line i).act0 ∧ NotFlagWord (s.line i).act1) →
        step s = .next t → t.flags = s.flags

/-- R20, R53, R87 and the register rules of 10_state.md: without a reset and a bus write, a step changes no configuration
register, table or action register. -/
def Obligations.ConfigurationChangesOnlyByBus : Prop :=
  ∀ s t : State, s.nextInput.rst = false → NoBusWrite s.nextInput → step s = .next t → SameConfiguration s t

/-- R130, R131: the block's step depends on the coming input alone: later inputs change nothing but themselves. -/
def Obligations.LaterInputsDoNotMatter : Prop :=
  ∀ (s t : State) (i : Input) (rest rest' : List Input),
    step { s with inputs := i :: rest } = .next t →
      step { s with inputs := i :: rest' } = .next { t with inputs := rest' }

/-! Invariants. -/

/-- R41: every step keeps COUNT ≤ RELOAD of COUNTDOWN slots. -/
def Obligations.StepKeepsCountsWithinReload : Prop :=
  ∀ s t : State, CountsWithinReload s → step s = .next t → CountsWithinReload t

/-- R55, R232, R233, R234: every step keeps settle counts positive, and after any step a line that is disabled, in level
mode or without debounce has DB IDLE (in states no run reaches the model's reading, log entry 15). -/
def Obligations.StepKeepsDebounceLegal : Prop :=
  ∀ s t : State, step s = .next t → (SettleCountsPositive s → SettleCountsPositive t) ∧ InactiveLinesIdle t

/-- R30, R31, R320, R322: every step keeps the error record legal. -/
def Obligations.StepKeepsErrorRecordLegal : Prop :=
  ∀ s t : State, ErrorRecordLegal s → step s = .next t → ErrorRecordLegal t

/-- R360: the invariants hold of ResetState. -/
def Obligations.ResetStateIsLegal : Prop :=
  CountsWithinReload State.reset ∧ SettleCountsPositive State.reset ∧ InactiveLinesIdle State.reset ∧
    ErrorRecordLegal State.reset
end

