-- ==== Sys2Proof/Laws/Decode.lean ====
section
/-! SUPPORT. The fields of a word as numbers, the word of its fields, and what decode can answer: later proofs cite these
and do not unfold a bit-field extraction again. -/

namespace Sys2Proof

theorem fields_toNat (a : BitVec 5) (b : BitVec 3) (c : BitVec 8) (d : Half) :
    BitVec.toNat (w := 32) (a ++ b ++ c ++ d) =
      a.toNat * 2 ^ 27 + b.toNat * 2 ^ 24 + c.toNat * 2 ^ 16 + d.toNat := by
  have h : BitVec.toNat (w := 5 + 3 + 8 + 16) (a ++ b ++ c ++ d) =
      a.toNat * 2 ^ 27 + b.toNat * 2 ^ 24 + c.toNat * 2 ^ 16 + d.toNat := by
    rw [BitVec.toNat_append, BitVec.toNat_append, BitVec.toNat_append, ← Nat.shiftLeft_add_eq_or_of_lt d.isLt,
      ← Nat.shiftLeft_add_eq_or_of_lt c.isLt, ← Nat.shiftLeft_add_eq_or_of_lt b.isLt]
    simp only [Nat.shiftLeft_eq]
    omega
  exact h

theorem opField_toNat (w : Word) : (opField w).toNat = w.toNat / 2 ^ 27 := by
  have := w.isLt
  simp [opField, BitVec.extractLsb'_toNat, Nat.shiftRight_eq_div_pow]
  omega

theorem selField_toNat (w : Word) : (selField w).toNat = w.toNat / 2 ^ 24 % 2 ^ 3 := by
  simp [selField, BitVec.extractLsb'_toNat, Nat.shiftRight_eq_div_pow]

theorem rsvField_toNat (w : Word) : (rsvField w).toNat = w.toNat / 2 ^ 16 % 2 ^ 8 := by
  simp [rsvField, BitVec.extractLsb'_toNat, Nat.shiftRight_eq_div_pow]

theorem immField_toNat (w : Word) : (immField w).toNat = w.toNat % 2 ^ 16 := by
  simp [immField, BitVec.extractLsb'_toNat]

/-- A word is its four fields (R101). -/
theorem word_of_fields (w : Word) : opField w ++ selField w ++ rsvField w ++ immField w = w := by
  apply BitVec.eq_of_toNat_eq
  rw [fields_toNat, opField_toNat, selField_toNat, rsvField_toNat, immField_toNat]
  omega

theorem opField_of_fields (a : BitVec 5) (b : BitVec 3) (c : BitVec 8) (d : Half) : opField (a ++ b ++ c ++ d) = a := by
  have := b.isLt; have := c.isLt; have := d.isLt
  apply BitVec.eq_of_toNat_eq
  rw [opField_toNat, fields_toNat]
  omega

theorem selField_of_fields (a : BitVec 5) (b : BitVec 3) (c : BitVec 8) (d : Half) :
    selField (a ++ b ++ c ++ d) = b := by
  have := b.isLt; have := c.isLt; have := d.isLt
  apply BitVec.eq_of_toNat_eq
  rw [selField_toNat, fields_toNat]
  omega

theorem rsvField_of_fields (a : BitVec 5) (b : BitVec 3) (c : BitVec 8) (d : Half) :
    rsvField (a ++ b ++ c ++ d) = c := by
  have := b.isLt; have := c.isLt; have := d.isLt
  apply BitVec.eq_of_toNat_eq
  rw [rsvField_toNat, fields_toNat]
  omega

theorem immField_of_fields (a : BitVec 5) (b : BitVec 3) (c : BitVec 8) (d : Half) :
    immField (a ++ b ++ c ++ d) = d := by
  have := d.isLt
  apply BitVec.eq_of_toNat_eq
  rw [immField_toNat, fields_toNat]
  omega

@[simp] theorem opField_encode (i : Instr) : opField (encode i) = i.opcode.number := opField_of_fields _ _ _ _

@[simp] theorem selField_encode (i : Instr) : selField (encode i) = i.sel := selField_of_fields _ _ _ _

@[simp] theorem rsvField_encode (i : Instr) : rsvField (encode i) = 0 := rsvField_of_fields _ _ _ _

@[simp] theorem immField_encode (i : Instr) : immField (encode i) = i.imm := immField_of_fields _ _ _ _

@[simp] theorem Opcode.ofNumber_number (o : Opcode) : Opcode.ofNumber o.number.toNat = some o := by
  cases o <;> rfl

theorem Opcode.number_of_ofNumber (n : BitVec 5) (o : Opcode) (h : Opcode.ofNumber n.toNat = some o) : o.number = n := by
  revert n o
  decide

/-- Everything a word that decodes has (R105): a known opcode, RSV = 0, and SEL and IMM as the opcode allows. -/
theorem decode_ok_cases (w : Word) (i : Instr) (h : decode w = .ok i) :
    ∃ o, Opcode.ofNumber (opField w).toNat = some o ∧ rsvField w = 0 ∧ (o.kind = .none → selField w = 0) ∧
      (o.takesImm = false → immField w = 0) ∧ (selField w).toNat < o.kind.range ∧
      i = o.build (selField w) (immField w) := by
  unfold decode at h
  split at h
  · cases h
  · rename_i o ho
    split_ifs at h with h1 h2 h3 h4
    refine ⟨o, ho, not_not.mp h1, fun hk => ?_, fun hk => ?_, not_le.mp h4, ?_⟩
    · by_contra hs; exact h2 ⟨hk, hs⟩
    · by_contra hs; exact h3 ⟨hk, hs⟩
    · injection h with h; exact h.symm

end Sys2Proof
end

