-- ==== Sys2Proof/Laws/State.lean ====
section
/-! SUPPORT. One lemma per field and update of State, true by rfl, and read-after-write for the registers that come in
numbers: no later proof unfolds a record update. -/

namespace Sys2Proof.Machine

@[simp] theorem State.setTickCtrl_tickCtrl (s : State) (v : TickCtrl) : (s.setTickCtrl v).tickCtrl = v := rfl
@[simp] theorem State.setTickCtrl_tickReload (s : State) (v : TickCtrl) : (s.setTickCtrl v).tickReload = s.tickReload := rfl
@[simp] theorem State.setTickCtrl_tickCurrent (s : State) (v : TickCtrl) : (s.setTickCtrl v).tickCurrent = s.tickCurrent := rfl
@[simp] theorem State.setTickCtrl_ticks (s : State) (v : TickCtrl) : (s.setTickCtrl v).ticks = s.ticks := rfl
@[simp] theorem State.setTickCtrl_pend (s : State) (v : TickCtrl) : (s.setTickCtrl v).pend = s.pend := rfl
@[simp] theorem State.setTickCtrl_missed (s : State) (v : TickCtrl) : (s.setTickCtrl v).missed = s.missed := rfl
@[simp] theorem State.setTickCtrl_ovrCnt (s : State) (v : TickCtrl) : (s.setTickCtrl v).ovrCnt = s.ovrCnt := rfl
@[simp] theorem State.setTickCtrl_errCode (s : State) (v : TickCtrl) : (s.setTickCtrl v).errCode = s.errCode := rfl
@[simp] theorem State.setTickCtrl_errInfo (s : State) (v : TickCtrl) : (s.setTickCtrl v).errInfo = s.errInfo := rfl
@[simp] theorem State.setTickCtrl_flags (s : State) (v : TickCtrl) : (s.setTickCtrl v).flags = s.flags := rfl
@[simp] theorem State.setTickCtrl_out (s : State) (v : TickCtrl) : (s.setTickCtrl v).out = s.out := rfl
@[simp] theorem State.setTickCtrl_cnt (s : State) (v : TickCtrl) : (s.setTickCtrl v).cnt = s.cnt := rfl
@[simp] theorem State.setTickCtrl_mask (s : State) (v : TickCtrl) : (s.setTickCtrl v).mask = s.mask := rfl
@[simp] theorem State.setTickCtrl_tasks (s : State) (v : TickCtrl) : (s.setTickCtrl v).tasks = s.tasks := rfl
@[simp] theorem State.setTickCtrl_lines (s : State) (v : TickCtrl) : (s.setTickCtrl v).lines = s.lines := rfl
@[simp] theorem State.setTickCtrl_meas (s : State) (v : TickCtrl) : (s.setTickCtrl v).meas = s.meas := rfl
@[simp] theorem State.setTickCtrl_seqs (s : State) (v : TickCtrl) : (s.setTickCtrl v).seqs = s.seqs := rfl
@[simp] theorem State.setTickCtrl_requester (s : State) (v : TickCtrl) : (s.setTickCtrl v).requester = s.requester := rfl
@[simp] theorem State.setTickCtrl_rsp (s : State) (v : TickCtrl) : (s.setTickCtrl v).rsp = s.rsp := rfl
@[simp] theorem State.setTickCtrl_inputs (s : State) (v : TickCtrl) : (s.setTickCtrl v).inputs = s.inputs := rfl
@[simp] theorem State.setTickCtrl_time (s : State) (v : TickCtrl) : (s.setTickCtrl v).time = s.time := rfl
@[simp] theorem State.setTickCtrl_counter (s : State) (v : TickCtrl) (c : Fin 4) : (s.setTickCtrl v).counter c = s.counter c := rfl
@[simp] theorem State.setTickCtrl_maskReg (s : State) (v : TickCtrl) (m : Fin 8) : (s.setTickCtrl v).maskReg m = s.maskReg m := rfl
@[simp] theorem State.setTickCtrl_task (s : State) (v : TickCtrl) (k : Fin 4) : (s.setTickCtrl v).task k = s.task k := rfl
@[simp] theorem State.setTickCtrl_line (s : State) (v : TickCtrl) (i : Fin 4) : (s.setTickCtrl v).line i = s.line i := rfl
@[simp] theorem State.setTickCtrl_measUnit (s : State) (v : TickCtrl) (u : Fin 2) : (s.setTickCtrl v).measUnit u = s.measUnit u := rfl
@[simp] theorem State.setTickCtrl_seqUnit (s : State) (v : TickCtrl) (j : Fin 2) : (s.setTickCtrl v).seqUnit j = s.seqUnit j := rfl

@[simp] theorem State.setTickReload_tickCtrl (s : State) (v : BitVec 24) : (s.setTickReload v).tickCtrl = s.tickCtrl := rfl
@[simp] theorem State.setTickReload_tickReload (s : State) (v : BitVec 24) : (s.setTickReload v).tickReload = v := rfl
@[simp] theorem State.setTickReload_tickCurrent (s : State) (v : BitVec 24) : (s.setTickReload v).tickCurrent = s.tickCurrent := rfl
@[simp] theorem State.setTickReload_ticks (s : State) (v : BitVec 24) : (s.setTickReload v).ticks = s.ticks := rfl
@[simp] theorem State.setTickReload_pend (s : State) (v : BitVec 24) : (s.setTickReload v).pend = s.pend := rfl
@[simp] theorem State.setTickReload_missed (s : State) (v : BitVec 24) : (s.setTickReload v).missed = s.missed := rfl
@[simp] theorem State.setTickReload_ovrCnt (s : State) (v : BitVec 24) : (s.setTickReload v).ovrCnt = s.ovrCnt := rfl
@[simp] theorem State.setTickReload_errCode (s : State) (v : BitVec 24) : (s.setTickReload v).errCode = s.errCode := rfl
@[simp] theorem State.setTickReload_errInfo (s : State) (v : BitVec 24) : (s.setTickReload v).errInfo = s.errInfo := rfl
@[simp] theorem State.setTickReload_flags (s : State) (v : BitVec 24) : (s.setTickReload v).flags = s.flags := rfl
@[simp] theorem State.setTickReload_out (s : State) (v : BitVec 24) : (s.setTickReload v).out = s.out := rfl
@[simp] theorem State.setTickReload_cnt (s : State) (v : BitVec 24) : (s.setTickReload v).cnt = s.cnt := rfl
@[simp] theorem State.setTickReload_mask (s : State) (v : BitVec 24) : (s.setTickReload v).mask = s.mask := rfl
@[simp] theorem State.setTickReload_tasks (s : State) (v : BitVec 24) : (s.setTickReload v).tasks = s.tasks := rfl
@[simp] theorem State.setTickReload_lines (s : State) (v : BitVec 24) : (s.setTickReload v).lines = s.lines := rfl
@[simp] theorem State.setTickReload_meas (s : State) (v : BitVec 24) : (s.setTickReload v).meas = s.meas := rfl
@[simp] theorem State.setTickReload_seqs (s : State) (v : BitVec 24) : (s.setTickReload v).seqs = s.seqs := rfl
@[simp] theorem State.setTickReload_requester (s : State) (v : BitVec 24) : (s.setTickReload v).requester = s.requester := rfl
@[simp] theorem State.setTickReload_rsp (s : State) (v : BitVec 24) : (s.setTickReload v).rsp = s.rsp := rfl
@[simp] theorem State.setTickReload_inputs (s : State) (v : BitVec 24) : (s.setTickReload v).inputs = s.inputs := rfl
@[simp] theorem State.setTickReload_time (s : State) (v : BitVec 24) : (s.setTickReload v).time = s.time := rfl
@[simp] theorem State.setTickReload_counter (s : State) (v : BitVec 24) (c : Fin 4) : (s.setTickReload v).counter c = s.counter c := rfl
@[simp] theorem State.setTickReload_maskReg (s : State) (v : BitVec 24) (m : Fin 8) : (s.setTickReload v).maskReg m = s.maskReg m := rfl
@[simp] theorem State.setTickReload_task (s : State) (v : BitVec 24) (k : Fin 4) : (s.setTickReload v).task k = s.task k := rfl
@[simp] theorem State.setTickReload_line (s : State) (v : BitVec 24) (i : Fin 4) : (s.setTickReload v).line i = s.line i := rfl
@[simp] theorem State.setTickReload_measUnit (s : State) (v : BitVec 24) (u : Fin 2) : (s.setTickReload v).measUnit u = s.measUnit u := rfl
@[simp] theorem State.setTickReload_seqUnit (s : State) (v : BitVec 24) (j : Fin 2) : (s.setTickReload v).seqUnit j = s.seqUnit j := rfl

@[simp] theorem State.setTickCurrent_tickCtrl (s : State) (v : BitVec 24) : (s.setTickCurrent v).tickCtrl = s.tickCtrl := rfl
@[simp] theorem State.setTickCurrent_tickReload (s : State) (v : BitVec 24) : (s.setTickCurrent v).tickReload = s.tickReload := rfl
@[simp] theorem State.setTickCurrent_tickCurrent (s : State) (v : BitVec 24) : (s.setTickCurrent v).tickCurrent = v := rfl
@[simp] theorem State.setTickCurrent_ticks (s : State) (v : BitVec 24) : (s.setTickCurrent v).ticks = s.ticks := rfl
@[simp] theorem State.setTickCurrent_pend (s : State) (v : BitVec 24) : (s.setTickCurrent v).pend = s.pend := rfl
@[simp] theorem State.setTickCurrent_missed (s : State) (v : BitVec 24) : (s.setTickCurrent v).missed = s.missed := rfl
@[simp] theorem State.setTickCurrent_ovrCnt (s : State) (v : BitVec 24) : (s.setTickCurrent v).ovrCnt = s.ovrCnt := rfl
@[simp] theorem State.setTickCurrent_errCode (s : State) (v : BitVec 24) : (s.setTickCurrent v).errCode = s.errCode := rfl
@[simp] theorem State.setTickCurrent_errInfo (s : State) (v : BitVec 24) : (s.setTickCurrent v).errInfo = s.errInfo := rfl
@[simp] theorem State.setTickCurrent_flags (s : State) (v : BitVec 24) : (s.setTickCurrent v).flags = s.flags := rfl
@[simp] theorem State.setTickCurrent_out (s : State) (v : BitVec 24) : (s.setTickCurrent v).out = s.out := rfl
@[simp] theorem State.setTickCurrent_cnt (s : State) (v : BitVec 24) : (s.setTickCurrent v).cnt = s.cnt := rfl
@[simp] theorem State.setTickCurrent_mask (s : State) (v : BitVec 24) : (s.setTickCurrent v).mask = s.mask := rfl
@[simp] theorem State.setTickCurrent_tasks (s : State) (v : BitVec 24) : (s.setTickCurrent v).tasks = s.tasks := rfl
@[simp] theorem State.setTickCurrent_lines (s : State) (v : BitVec 24) : (s.setTickCurrent v).lines = s.lines := rfl
@[simp] theorem State.setTickCurrent_meas (s : State) (v : BitVec 24) : (s.setTickCurrent v).meas = s.meas := rfl
@[simp] theorem State.setTickCurrent_seqs (s : State) (v : BitVec 24) : (s.setTickCurrent v).seqs = s.seqs := rfl
@[simp] theorem State.setTickCurrent_requester (s : State) (v : BitVec 24) : (s.setTickCurrent v).requester = s.requester := rfl
@[simp] theorem State.setTickCurrent_rsp (s : State) (v : BitVec 24) : (s.setTickCurrent v).rsp = s.rsp := rfl
@[simp] theorem State.setTickCurrent_inputs (s : State) (v : BitVec 24) : (s.setTickCurrent v).inputs = s.inputs := rfl
@[simp] theorem State.setTickCurrent_time (s : State) (v : BitVec 24) : (s.setTickCurrent v).time = s.time := rfl
@[simp] theorem State.setTickCurrent_counter (s : State) (v : BitVec 24) (c : Fin 4) : (s.setTickCurrent v).counter c = s.counter c := rfl
@[simp] theorem State.setTickCurrent_maskReg (s : State) (v : BitVec 24) (m : Fin 8) : (s.setTickCurrent v).maskReg m = s.maskReg m := rfl
@[simp] theorem State.setTickCurrent_task (s : State) (v : BitVec 24) (k : Fin 4) : (s.setTickCurrent v).task k = s.task k := rfl
@[simp] theorem State.setTickCurrent_line (s : State) (v : BitVec 24) (i : Fin 4) : (s.setTickCurrent v).line i = s.line i := rfl
@[simp] theorem State.setTickCurrent_measUnit (s : State) (v : BitVec 24) (u : Fin 2) : (s.setTickCurrent v).measUnit u = s.measUnit u := rfl
@[simp] theorem State.setTickCurrent_seqUnit (s : State) (v : BitVec 24) (j : Fin 2) : (s.setTickCurrent v).seqUnit j = s.seqUnit j := rfl

@[simp] theorem State.setTicks_tickCtrl (s : State) (v : Word) : (s.setTicks v).tickCtrl = s.tickCtrl := rfl
@[simp] theorem State.setTicks_tickReload (s : State) (v : Word) : (s.setTicks v).tickReload = s.tickReload := rfl
@[simp] theorem State.setTicks_tickCurrent (s : State) (v : Word) : (s.setTicks v).tickCurrent = s.tickCurrent := rfl
@[simp] theorem State.setTicks_ticks (s : State) (v : Word) : (s.setTicks v).ticks = v := rfl
@[simp] theorem State.setTicks_pend (s : State) (v : Word) : (s.setTicks v).pend = s.pend := rfl
@[simp] theorem State.setTicks_missed (s : State) (v : Word) : (s.setTicks v).missed = s.missed := rfl
@[simp] theorem State.setTicks_ovrCnt (s : State) (v : Word) : (s.setTicks v).ovrCnt = s.ovrCnt := rfl
@[simp] theorem State.setTicks_errCode (s : State) (v : Word) : (s.setTicks v).errCode = s.errCode := rfl
@[simp] theorem State.setTicks_errInfo (s : State) (v : Word) : (s.setTicks v).errInfo = s.errInfo := rfl
@[simp] theorem State.setTicks_flags (s : State) (v : Word) : (s.setTicks v).flags = s.flags := rfl
@[simp] theorem State.setTicks_out (s : State) (v : Word) : (s.setTicks v).out = s.out := rfl
@[simp] theorem State.setTicks_cnt (s : State) (v : Word) : (s.setTicks v).cnt = s.cnt := rfl
@[simp] theorem State.setTicks_mask (s : State) (v : Word) : (s.setTicks v).mask = s.mask := rfl
@[simp] theorem State.setTicks_tasks (s : State) (v : Word) : (s.setTicks v).tasks = s.tasks := rfl
@[simp] theorem State.setTicks_lines (s : State) (v : Word) : (s.setTicks v).lines = s.lines := rfl
@[simp] theorem State.setTicks_meas (s : State) (v : Word) : (s.setTicks v).meas = s.meas := rfl
@[simp] theorem State.setTicks_seqs (s : State) (v : Word) : (s.setTicks v).seqs = s.seqs := rfl
@[simp] theorem State.setTicks_requester (s : State) (v : Word) : (s.setTicks v).requester = s.requester := rfl
@[simp] theorem State.setTicks_rsp (s : State) (v : Word) : (s.setTicks v).rsp = s.rsp := rfl
@[simp] theorem State.setTicks_inputs (s : State) (v : Word) : (s.setTicks v).inputs = s.inputs := rfl
@[simp] theorem State.setTicks_time (s : State) (v : Word) : (s.setTicks v).time = s.time := rfl
@[simp] theorem State.setTicks_counter (s : State) (v : Word) (c : Fin 4) : (s.setTicks v).counter c = s.counter c := rfl
@[simp] theorem State.setTicks_maskReg (s : State) (v : Word) (m : Fin 8) : (s.setTicks v).maskReg m = s.maskReg m := rfl
@[simp] theorem State.setTicks_task (s : State) (v : Word) (k : Fin 4) : (s.setTicks v).task k = s.task k := rfl
@[simp] theorem State.setTicks_line (s : State) (v : Word) (i : Fin 4) : (s.setTicks v).line i = s.line i := rfl
@[simp] theorem State.setTicks_measUnit (s : State) (v : Word) (u : Fin 2) : (s.setTicks v).measUnit u = s.measUnit u := rfl
@[simp] theorem State.setTicks_seqUnit (s : State) (v : Word) (j : Fin 2) : (s.setTicks v).seqUnit j = s.seqUnit j := rfl

@[simp] theorem State.setPend_tickCtrl (s : State) (v : Pend) : (s.setPend v).tickCtrl = s.tickCtrl := rfl
@[simp] theorem State.setPend_tickReload (s : State) (v : Pend) : (s.setPend v).tickReload = s.tickReload := rfl
@[simp] theorem State.setPend_tickCurrent (s : State) (v : Pend) : (s.setPend v).tickCurrent = s.tickCurrent := rfl
@[simp] theorem State.setPend_ticks (s : State) (v : Pend) : (s.setPend v).ticks = s.ticks := rfl
@[simp] theorem State.setPend_pend (s : State) (v : Pend) : (s.setPend v).pend = v := rfl
@[simp] theorem State.setPend_missed (s : State) (v : Pend) : (s.setPend v).missed = s.missed := rfl
@[simp] theorem State.setPend_ovrCnt (s : State) (v : Pend) : (s.setPend v).ovrCnt = s.ovrCnt := rfl
@[simp] theorem State.setPend_errCode (s : State) (v : Pend) : (s.setPend v).errCode = s.errCode := rfl
@[simp] theorem State.setPend_errInfo (s : State) (v : Pend) : (s.setPend v).errInfo = s.errInfo := rfl
@[simp] theorem State.setPend_flags (s : State) (v : Pend) : (s.setPend v).flags = s.flags := rfl
@[simp] theorem State.setPend_out (s : State) (v : Pend) : (s.setPend v).out = s.out := rfl
@[simp] theorem State.setPend_cnt (s : State) (v : Pend) : (s.setPend v).cnt = s.cnt := rfl
@[simp] theorem State.setPend_mask (s : State) (v : Pend) : (s.setPend v).mask = s.mask := rfl
@[simp] theorem State.setPend_tasks (s : State) (v : Pend) : (s.setPend v).tasks = s.tasks := rfl
@[simp] theorem State.setPend_lines (s : State) (v : Pend) : (s.setPend v).lines = s.lines := rfl
@[simp] theorem State.setPend_meas (s : State) (v : Pend) : (s.setPend v).meas = s.meas := rfl
@[simp] theorem State.setPend_seqs (s : State) (v : Pend) : (s.setPend v).seqs = s.seqs := rfl
@[simp] theorem State.setPend_requester (s : State) (v : Pend) : (s.setPend v).requester = s.requester := rfl
@[simp] theorem State.setPend_rsp (s : State) (v : Pend) : (s.setPend v).rsp = s.rsp := rfl
@[simp] theorem State.setPend_inputs (s : State) (v : Pend) : (s.setPend v).inputs = s.inputs := rfl
@[simp] theorem State.setPend_time (s : State) (v : Pend) : (s.setPend v).time = s.time := rfl
@[simp] theorem State.setPend_counter (s : State) (v : Pend) (c : Fin 4) : (s.setPend v).counter c = s.counter c := rfl
@[simp] theorem State.setPend_maskReg (s : State) (v : Pend) (m : Fin 8) : (s.setPend v).maskReg m = s.maskReg m := rfl
@[simp] theorem State.setPend_task (s : State) (v : Pend) (k : Fin 4) : (s.setPend v).task k = s.task k := rfl
@[simp] theorem State.setPend_line (s : State) (v : Pend) (i : Fin 4) : (s.setPend v).line i = s.line i := rfl
@[simp] theorem State.setPend_measUnit (s : State) (v : Pend) (u : Fin 2) : (s.setPend v).measUnit u = s.measUnit u := rfl
@[simp] theorem State.setPend_seqUnit (s : State) (v : Pend) (j : Fin 2) : (s.setPend v).seqUnit j = s.seqUnit j := rfl

@[simp] theorem State.setMissed_tickCtrl (s : State) (v : Missed) : (s.setMissed v).tickCtrl = s.tickCtrl := rfl
@[simp] theorem State.setMissed_tickReload (s : State) (v : Missed) : (s.setMissed v).tickReload = s.tickReload := rfl
@[simp] theorem State.setMissed_tickCurrent (s : State) (v : Missed) : (s.setMissed v).tickCurrent = s.tickCurrent := rfl
@[simp] theorem State.setMissed_ticks (s : State) (v : Missed) : (s.setMissed v).ticks = s.ticks := rfl
@[simp] theorem State.setMissed_pend (s : State) (v : Missed) : (s.setMissed v).pend = s.pend := rfl
@[simp] theorem State.setMissed_missed (s : State) (v : Missed) : (s.setMissed v).missed = v := rfl
@[simp] theorem State.setMissed_ovrCnt (s : State) (v : Missed) : (s.setMissed v).ovrCnt = s.ovrCnt := rfl
@[simp] theorem State.setMissed_errCode (s : State) (v : Missed) : (s.setMissed v).errCode = s.errCode := rfl
@[simp] theorem State.setMissed_errInfo (s : State) (v : Missed) : (s.setMissed v).errInfo = s.errInfo := rfl
@[simp] theorem State.setMissed_flags (s : State) (v : Missed) : (s.setMissed v).flags = s.flags := rfl
@[simp] theorem State.setMissed_out (s : State) (v : Missed) : (s.setMissed v).out = s.out := rfl
@[simp] theorem State.setMissed_cnt (s : State) (v : Missed) : (s.setMissed v).cnt = s.cnt := rfl
@[simp] theorem State.setMissed_mask (s : State) (v : Missed) : (s.setMissed v).mask = s.mask := rfl
@[simp] theorem State.setMissed_tasks (s : State) (v : Missed) : (s.setMissed v).tasks = s.tasks := rfl
@[simp] theorem State.setMissed_lines (s : State) (v : Missed) : (s.setMissed v).lines = s.lines := rfl
@[simp] theorem State.setMissed_meas (s : State) (v : Missed) : (s.setMissed v).meas = s.meas := rfl
@[simp] theorem State.setMissed_seqs (s : State) (v : Missed) : (s.setMissed v).seqs = s.seqs := rfl
@[simp] theorem State.setMissed_requester (s : State) (v : Missed) : (s.setMissed v).requester = s.requester := rfl
@[simp] theorem State.setMissed_rsp (s : State) (v : Missed) : (s.setMissed v).rsp = s.rsp := rfl
@[simp] theorem State.setMissed_inputs (s : State) (v : Missed) : (s.setMissed v).inputs = s.inputs := rfl
@[simp] theorem State.setMissed_time (s : State) (v : Missed) : (s.setMissed v).time = s.time := rfl
@[simp] theorem State.setMissed_counter (s : State) (v : Missed) (c : Fin 4) : (s.setMissed v).counter c = s.counter c := rfl
@[simp] theorem State.setMissed_maskReg (s : State) (v : Missed) (m : Fin 8) : (s.setMissed v).maskReg m = s.maskReg m := rfl
@[simp] theorem State.setMissed_task (s : State) (v : Missed) (k : Fin 4) : (s.setMissed v).task k = s.task k := rfl
@[simp] theorem State.setMissed_line (s : State) (v : Missed) (i : Fin 4) : (s.setMissed v).line i = s.line i := rfl
@[simp] theorem State.setMissed_measUnit (s : State) (v : Missed) (u : Fin 2) : (s.setMissed v).measUnit u = s.measUnit u := rfl
@[simp] theorem State.setMissed_seqUnit (s : State) (v : Missed) (j : Fin 2) : (s.setMissed v).seqUnit j = s.seqUnit j := rfl

@[simp] theorem State.setOvrCnt_tickCtrl (s : State) (v : Word) : (s.setOvrCnt v).tickCtrl = s.tickCtrl := rfl
@[simp] theorem State.setOvrCnt_tickReload (s : State) (v : Word) : (s.setOvrCnt v).tickReload = s.tickReload := rfl
@[simp] theorem State.setOvrCnt_tickCurrent (s : State) (v : Word) : (s.setOvrCnt v).tickCurrent = s.tickCurrent := rfl
@[simp] theorem State.setOvrCnt_ticks (s : State) (v : Word) : (s.setOvrCnt v).ticks = s.ticks := rfl
@[simp] theorem State.setOvrCnt_pend (s : State) (v : Word) : (s.setOvrCnt v).pend = s.pend := rfl
@[simp] theorem State.setOvrCnt_missed (s : State) (v : Word) : (s.setOvrCnt v).missed = s.missed := rfl
@[simp] theorem State.setOvrCnt_ovrCnt (s : State) (v : Word) : (s.setOvrCnt v).ovrCnt = v := rfl
@[simp] theorem State.setOvrCnt_errCode (s : State) (v : Word) : (s.setOvrCnt v).errCode = s.errCode := rfl
@[simp] theorem State.setOvrCnt_errInfo (s : State) (v : Word) : (s.setOvrCnt v).errInfo = s.errInfo := rfl
@[simp] theorem State.setOvrCnt_flags (s : State) (v : Word) : (s.setOvrCnt v).flags = s.flags := rfl
@[simp] theorem State.setOvrCnt_out (s : State) (v : Word) : (s.setOvrCnt v).out = s.out := rfl
@[simp] theorem State.setOvrCnt_cnt (s : State) (v : Word) : (s.setOvrCnt v).cnt = s.cnt := rfl
@[simp] theorem State.setOvrCnt_mask (s : State) (v : Word) : (s.setOvrCnt v).mask = s.mask := rfl
@[simp] theorem State.setOvrCnt_tasks (s : State) (v : Word) : (s.setOvrCnt v).tasks = s.tasks := rfl
@[simp] theorem State.setOvrCnt_lines (s : State) (v : Word) : (s.setOvrCnt v).lines = s.lines := rfl
@[simp] theorem State.setOvrCnt_meas (s : State) (v : Word) : (s.setOvrCnt v).meas = s.meas := rfl
@[simp] theorem State.setOvrCnt_seqs (s : State) (v : Word) : (s.setOvrCnt v).seqs = s.seqs := rfl
@[simp] theorem State.setOvrCnt_requester (s : State) (v : Word) : (s.setOvrCnt v).requester = s.requester := rfl
@[simp] theorem State.setOvrCnt_rsp (s : State) (v : Word) : (s.setOvrCnt v).rsp = s.rsp := rfl
@[simp] theorem State.setOvrCnt_inputs (s : State) (v : Word) : (s.setOvrCnt v).inputs = s.inputs := rfl
@[simp] theorem State.setOvrCnt_time (s : State) (v : Word) : (s.setOvrCnt v).time = s.time := rfl
@[simp] theorem State.setOvrCnt_counter (s : State) (v : Word) (c : Fin 4) : (s.setOvrCnt v).counter c = s.counter c := rfl
@[simp] theorem State.setOvrCnt_maskReg (s : State) (v : Word) (m : Fin 8) : (s.setOvrCnt v).maskReg m = s.maskReg m := rfl
@[simp] theorem State.setOvrCnt_task (s : State) (v : Word) (k : Fin 4) : (s.setOvrCnt v).task k = s.task k := rfl
@[simp] theorem State.setOvrCnt_line (s : State) (v : Word) (i : Fin 4) : (s.setOvrCnt v).line i = s.line i := rfl
@[simp] theorem State.setOvrCnt_measUnit (s : State) (v : Word) (u : Fin 2) : (s.setOvrCnt v).measUnit u = s.measUnit u := rfl
@[simp] theorem State.setOvrCnt_seqUnit (s : State) (v : Word) (j : Fin 2) : (s.setOvrCnt v).seqUnit j = s.seqUnit j := rfl

@[simp] theorem State.setErrCode_tickCtrl (s : State) (v : ErrCode) : (s.setErrCode v).tickCtrl = s.tickCtrl := rfl
@[simp] theorem State.setErrCode_tickReload (s : State) (v : ErrCode) : (s.setErrCode v).tickReload = s.tickReload := rfl
@[simp] theorem State.setErrCode_tickCurrent (s : State) (v : ErrCode) : (s.setErrCode v).tickCurrent = s.tickCurrent := rfl
@[simp] theorem State.setErrCode_ticks (s : State) (v : ErrCode) : (s.setErrCode v).ticks = s.ticks := rfl
@[simp] theorem State.setErrCode_pend (s : State) (v : ErrCode) : (s.setErrCode v).pend = s.pend := rfl
@[simp] theorem State.setErrCode_missed (s : State) (v : ErrCode) : (s.setErrCode v).missed = s.missed := rfl
@[simp] theorem State.setErrCode_ovrCnt (s : State) (v : ErrCode) : (s.setErrCode v).ovrCnt = s.ovrCnt := rfl
@[simp] theorem State.setErrCode_errCode (s : State) (v : ErrCode) : (s.setErrCode v).errCode = v := rfl
@[simp] theorem State.setErrCode_errInfo (s : State) (v : ErrCode) : (s.setErrCode v).errInfo = s.errInfo := rfl
@[simp] theorem State.setErrCode_flags (s : State) (v : ErrCode) : (s.setErrCode v).flags = s.flags := rfl
@[simp] theorem State.setErrCode_out (s : State) (v : ErrCode) : (s.setErrCode v).out = s.out := rfl
@[simp] theorem State.setErrCode_cnt (s : State) (v : ErrCode) : (s.setErrCode v).cnt = s.cnt := rfl
@[simp] theorem State.setErrCode_mask (s : State) (v : ErrCode) : (s.setErrCode v).mask = s.mask := rfl
@[simp] theorem State.setErrCode_tasks (s : State) (v : ErrCode) : (s.setErrCode v).tasks = s.tasks := rfl
@[simp] theorem State.setErrCode_lines (s : State) (v : ErrCode) : (s.setErrCode v).lines = s.lines := rfl
@[simp] theorem State.setErrCode_meas (s : State) (v : ErrCode) : (s.setErrCode v).meas = s.meas := rfl
@[simp] theorem State.setErrCode_seqs (s : State) (v : ErrCode) : (s.setErrCode v).seqs = s.seqs := rfl
@[simp] theorem State.setErrCode_requester (s : State) (v : ErrCode) : (s.setErrCode v).requester = s.requester := rfl
@[simp] theorem State.setErrCode_rsp (s : State) (v : ErrCode) : (s.setErrCode v).rsp = s.rsp := rfl
@[simp] theorem State.setErrCode_inputs (s : State) (v : ErrCode) : (s.setErrCode v).inputs = s.inputs := rfl
@[simp] theorem State.setErrCode_time (s : State) (v : ErrCode) : (s.setErrCode v).time = s.time := rfl
@[simp] theorem State.setErrCode_counter (s : State) (v : ErrCode) (c : Fin 4) : (s.setErrCode v).counter c = s.counter c := rfl
@[simp] theorem State.setErrCode_maskReg (s : State) (v : ErrCode) (m : Fin 8) : (s.setErrCode v).maskReg m = s.maskReg m := rfl
@[simp] theorem State.setErrCode_task (s : State) (v : ErrCode) (k : Fin 4) : (s.setErrCode v).task k = s.task k := rfl
@[simp] theorem State.setErrCode_line (s : State) (v : ErrCode) (i : Fin 4) : (s.setErrCode v).line i = s.line i := rfl
@[simp] theorem State.setErrCode_measUnit (s : State) (v : ErrCode) (u : Fin 2) : (s.setErrCode v).measUnit u = s.measUnit u := rfl
@[simp] theorem State.setErrCode_seqUnit (s : State) (v : ErrCode) (j : Fin 2) : (s.setErrCode v).seqUnit j = s.seqUnit j := rfl

@[simp] theorem State.setErrInfo_tickCtrl (s : State) (v : Word) : (s.setErrInfo v).tickCtrl = s.tickCtrl := rfl
@[simp] theorem State.setErrInfo_tickReload (s : State) (v : Word) : (s.setErrInfo v).tickReload = s.tickReload := rfl
@[simp] theorem State.setErrInfo_tickCurrent (s : State) (v : Word) : (s.setErrInfo v).tickCurrent = s.tickCurrent := rfl
@[simp] theorem State.setErrInfo_ticks (s : State) (v : Word) : (s.setErrInfo v).ticks = s.ticks := rfl
@[simp] theorem State.setErrInfo_pend (s : State) (v : Word) : (s.setErrInfo v).pend = s.pend := rfl
@[simp] theorem State.setErrInfo_missed (s : State) (v : Word) : (s.setErrInfo v).missed = s.missed := rfl
@[simp] theorem State.setErrInfo_ovrCnt (s : State) (v : Word) : (s.setErrInfo v).ovrCnt = s.ovrCnt := rfl
@[simp] theorem State.setErrInfo_errCode (s : State) (v : Word) : (s.setErrInfo v).errCode = s.errCode := rfl
@[simp] theorem State.setErrInfo_errInfo (s : State) (v : Word) : (s.setErrInfo v).errInfo = v := rfl
@[simp] theorem State.setErrInfo_flags (s : State) (v : Word) : (s.setErrInfo v).flags = s.flags := rfl
@[simp] theorem State.setErrInfo_out (s : State) (v : Word) : (s.setErrInfo v).out = s.out := rfl
@[simp] theorem State.setErrInfo_cnt (s : State) (v : Word) : (s.setErrInfo v).cnt = s.cnt := rfl
@[simp] theorem State.setErrInfo_mask (s : State) (v : Word) : (s.setErrInfo v).mask = s.mask := rfl
@[simp] theorem State.setErrInfo_tasks (s : State) (v : Word) : (s.setErrInfo v).tasks = s.tasks := rfl
@[simp] theorem State.setErrInfo_lines (s : State) (v : Word) : (s.setErrInfo v).lines = s.lines := rfl
@[simp] theorem State.setErrInfo_meas (s : State) (v : Word) : (s.setErrInfo v).meas = s.meas := rfl
@[simp] theorem State.setErrInfo_seqs (s : State) (v : Word) : (s.setErrInfo v).seqs = s.seqs := rfl
@[simp] theorem State.setErrInfo_requester (s : State) (v : Word) : (s.setErrInfo v).requester = s.requester := rfl
@[simp] theorem State.setErrInfo_rsp (s : State) (v : Word) : (s.setErrInfo v).rsp = s.rsp := rfl
@[simp] theorem State.setErrInfo_inputs (s : State) (v : Word) : (s.setErrInfo v).inputs = s.inputs := rfl
@[simp] theorem State.setErrInfo_time (s : State) (v : Word) : (s.setErrInfo v).time = s.time := rfl
@[simp] theorem State.setErrInfo_counter (s : State) (v : Word) (c : Fin 4) : (s.setErrInfo v).counter c = s.counter c := rfl
@[simp] theorem State.setErrInfo_maskReg (s : State) (v : Word) (m : Fin 8) : (s.setErrInfo v).maskReg m = s.maskReg m := rfl
@[simp] theorem State.setErrInfo_task (s : State) (v : Word) (k : Fin 4) : (s.setErrInfo v).task k = s.task k := rfl
@[simp] theorem State.setErrInfo_line (s : State) (v : Word) (i : Fin 4) : (s.setErrInfo v).line i = s.line i := rfl
@[simp] theorem State.setErrInfo_measUnit (s : State) (v : Word) (u : Fin 2) : (s.setErrInfo v).measUnit u = s.measUnit u := rfl
@[simp] theorem State.setErrInfo_seqUnit (s : State) (v : Word) (j : Fin 2) : (s.setErrInfo v).seqUnit j = s.seqUnit j := rfl

@[simp] theorem State.setFlags_tickCtrl (s : State) (v : Half) : (s.setFlags v).tickCtrl = s.tickCtrl := rfl
@[simp] theorem State.setFlags_tickReload (s : State) (v : Half) : (s.setFlags v).tickReload = s.tickReload := rfl
@[simp] theorem State.setFlags_tickCurrent (s : State) (v : Half) : (s.setFlags v).tickCurrent = s.tickCurrent := rfl
@[simp] theorem State.setFlags_ticks (s : State) (v : Half) : (s.setFlags v).ticks = s.ticks := rfl
@[simp] theorem State.setFlags_pend (s : State) (v : Half) : (s.setFlags v).pend = s.pend := rfl
@[simp] theorem State.setFlags_missed (s : State) (v : Half) : (s.setFlags v).missed = s.missed := rfl
@[simp] theorem State.setFlags_ovrCnt (s : State) (v : Half) : (s.setFlags v).ovrCnt = s.ovrCnt := rfl
@[simp] theorem State.setFlags_errCode (s : State) (v : Half) : (s.setFlags v).errCode = s.errCode := rfl
@[simp] theorem State.setFlags_errInfo (s : State) (v : Half) : (s.setFlags v).errInfo = s.errInfo := rfl
@[simp] theorem State.setFlags_flags (s : State) (v : Half) : (s.setFlags v).flags = v := rfl
@[simp] theorem State.setFlags_out (s : State) (v : Half) : (s.setFlags v).out = s.out := rfl
@[simp] theorem State.setFlags_cnt (s : State) (v : Half) : (s.setFlags v).cnt = s.cnt := rfl
@[simp] theorem State.setFlags_mask (s : State) (v : Half) : (s.setFlags v).mask = s.mask := rfl
@[simp] theorem State.setFlags_tasks (s : State) (v : Half) : (s.setFlags v).tasks = s.tasks := rfl
@[simp] theorem State.setFlags_lines (s : State) (v : Half) : (s.setFlags v).lines = s.lines := rfl
@[simp] theorem State.setFlags_meas (s : State) (v : Half) : (s.setFlags v).meas = s.meas := rfl
@[simp] theorem State.setFlags_seqs (s : State) (v : Half) : (s.setFlags v).seqs = s.seqs := rfl
@[simp] theorem State.setFlags_requester (s : State) (v : Half) : (s.setFlags v).requester = s.requester := rfl
@[simp] theorem State.setFlags_rsp (s : State) (v : Half) : (s.setFlags v).rsp = s.rsp := rfl
@[simp] theorem State.setFlags_inputs (s : State) (v : Half) : (s.setFlags v).inputs = s.inputs := rfl
@[simp] theorem State.setFlags_time (s : State) (v : Half) : (s.setFlags v).time = s.time := rfl
@[simp] theorem State.setFlags_counter (s : State) (v : Half) (c : Fin 4) : (s.setFlags v).counter c = s.counter c := rfl
@[simp] theorem State.setFlags_maskReg (s : State) (v : Half) (m : Fin 8) : (s.setFlags v).maskReg m = s.maskReg m := rfl
@[simp] theorem State.setFlags_task (s : State) (v : Half) (k : Fin 4) : (s.setFlags v).task k = s.task k := rfl
@[simp] theorem State.setFlags_line (s : State) (v : Half) (i : Fin 4) : (s.setFlags v).line i = s.line i := rfl
@[simp] theorem State.setFlags_measUnit (s : State) (v : Half) (u : Fin 2) : (s.setFlags v).measUnit u = s.measUnit u := rfl
@[simp] theorem State.setFlags_seqUnit (s : State) (v : Half) (j : Fin 2) : (s.setFlags v).seqUnit j = s.seqUnit j := rfl

@[simp] theorem State.setOut_tickCtrl (s : State) (v : Word) : (s.setOut v).tickCtrl = s.tickCtrl := rfl
@[simp] theorem State.setOut_tickReload (s : State) (v : Word) : (s.setOut v).tickReload = s.tickReload := rfl
@[simp] theorem State.setOut_tickCurrent (s : State) (v : Word) : (s.setOut v).tickCurrent = s.tickCurrent := rfl
@[simp] theorem State.setOut_ticks (s : State) (v : Word) : (s.setOut v).ticks = s.ticks := rfl
@[simp] theorem State.setOut_pend (s : State) (v : Word) : (s.setOut v).pend = s.pend := rfl
@[simp] theorem State.setOut_missed (s : State) (v : Word) : (s.setOut v).missed = s.missed := rfl
@[simp] theorem State.setOut_ovrCnt (s : State) (v : Word) : (s.setOut v).ovrCnt = s.ovrCnt := rfl
@[simp] theorem State.setOut_errCode (s : State) (v : Word) : (s.setOut v).errCode = s.errCode := rfl
@[simp] theorem State.setOut_errInfo (s : State) (v : Word) : (s.setOut v).errInfo = s.errInfo := rfl
@[simp] theorem State.setOut_flags (s : State) (v : Word) : (s.setOut v).flags = s.flags := rfl
@[simp] theorem State.setOut_out (s : State) (v : Word) : (s.setOut v).out = v := rfl
@[simp] theorem State.setOut_cnt (s : State) (v : Word) : (s.setOut v).cnt = s.cnt := rfl
@[simp] theorem State.setOut_mask (s : State) (v : Word) : (s.setOut v).mask = s.mask := rfl
@[simp] theorem State.setOut_tasks (s : State) (v : Word) : (s.setOut v).tasks = s.tasks := rfl
@[simp] theorem State.setOut_lines (s : State) (v : Word) : (s.setOut v).lines = s.lines := rfl
@[simp] theorem State.setOut_meas (s : State) (v : Word) : (s.setOut v).meas = s.meas := rfl
@[simp] theorem State.setOut_seqs (s : State) (v : Word) : (s.setOut v).seqs = s.seqs := rfl
@[simp] theorem State.setOut_requester (s : State) (v : Word) : (s.setOut v).requester = s.requester := rfl
@[simp] theorem State.setOut_rsp (s : State) (v : Word) : (s.setOut v).rsp = s.rsp := rfl
@[simp] theorem State.setOut_inputs (s : State) (v : Word) : (s.setOut v).inputs = s.inputs := rfl
@[simp] theorem State.setOut_time (s : State) (v : Word) : (s.setOut v).time = s.time := rfl
@[simp] theorem State.setOut_counter (s : State) (v : Word) (c : Fin 4) : (s.setOut v).counter c = s.counter c := rfl
@[simp] theorem State.setOut_maskReg (s : State) (v : Word) (m : Fin 8) : (s.setOut v).maskReg m = s.maskReg m := rfl
@[simp] theorem State.setOut_task (s : State) (v : Word) (k : Fin 4) : (s.setOut v).task k = s.task k := rfl
@[simp] theorem State.setOut_line (s : State) (v : Word) (i : Fin 4) : (s.setOut v).line i = s.line i := rfl
@[simp] theorem State.setOut_measUnit (s : State) (v : Word) (u : Fin 2) : (s.setOut v).measUnit u = s.measUnit u := rfl
@[simp] theorem State.setOut_seqUnit (s : State) (v : Word) (j : Fin 2) : (s.setOut v).seqUnit j = s.seqUnit j := rfl

@[simp] theorem State.setRequester_tickCtrl (s : State) (v : Requester) : (s.setRequester v).tickCtrl = s.tickCtrl := rfl
@[simp] theorem State.setRequester_tickReload (s : State) (v : Requester) : (s.setRequester v).tickReload = s.tickReload := rfl
@[simp] theorem State.setRequester_tickCurrent (s : State) (v : Requester) : (s.setRequester v).tickCurrent = s.tickCurrent := rfl
@[simp] theorem State.setRequester_ticks (s : State) (v : Requester) : (s.setRequester v).ticks = s.ticks := rfl
@[simp] theorem State.setRequester_pend (s : State) (v : Requester) : (s.setRequester v).pend = s.pend := rfl
@[simp] theorem State.setRequester_missed (s : State) (v : Requester) : (s.setRequester v).missed = s.missed := rfl
@[simp] theorem State.setRequester_ovrCnt (s : State) (v : Requester) : (s.setRequester v).ovrCnt = s.ovrCnt := rfl
@[simp] theorem State.setRequester_errCode (s : State) (v : Requester) : (s.setRequester v).errCode = s.errCode := rfl
@[simp] theorem State.setRequester_errInfo (s : State) (v : Requester) : (s.setRequester v).errInfo = s.errInfo := rfl
@[simp] theorem State.setRequester_flags (s : State) (v : Requester) : (s.setRequester v).flags = s.flags := rfl
@[simp] theorem State.setRequester_out (s : State) (v : Requester) : (s.setRequester v).out = s.out := rfl
@[simp] theorem State.setRequester_cnt (s : State) (v : Requester) : (s.setRequester v).cnt = s.cnt := rfl
@[simp] theorem State.setRequester_mask (s : State) (v : Requester) : (s.setRequester v).mask = s.mask := rfl
@[simp] theorem State.setRequester_tasks (s : State) (v : Requester) : (s.setRequester v).tasks = s.tasks := rfl
@[simp] theorem State.setRequester_lines (s : State) (v : Requester) : (s.setRequester v).lines = s.lines := rfl
@[simp] theorem State.setRequester_meas (s : State) (v : Requester) : (s.setRequester v).meas = s.meas := rfl
@[simp] theorem State.setRequester_seqs (s : State) (v : Requester) : (s.setRequester v).seqs = s.seqs := rfl
@[simp] theorem State.setRequester_requester (s : State) (v : Requester) : (s.setRequester v).requester = v := rfl
@[simp] theorem State.setRequester_rsp (s : State) (v : Requester) : (s.setRequester v).rsp = s.rsp := rfl
@[simp] theorem State.setRequester_inputs (s : State) (v : Requester) : (s.setRequester v).inputs = s.inputs := rfl
@[simp] theorem State.setRequester_time (s : State) (v : Requester) : (s.setRequester v).time = s.time := rfl
@[simp] theorem State.setRequester_counter (s : State) (v : Requester) (c : Fin 4) : (s.setRequester v).counter c = s.counter c := rfl
@[simp] theorem State.setRequester_maskReg (s : State) (v : Requester) (m : Fin 8) : (s.setRequester v).maskReg m = s.maskReg m := rfl
@[simp] theorem State.setRequester_task (s : State) (v : Requester) (k : Fin 4) : (s.setRequester v).task k = s.task k := rfl
@[simp] theorem State.setRequester_line (s : State) (v : Requester) (i : Fin 4) : (s.setRequester v).line i = s.line i := rfl
@[simp] theorem State.setRequester_measUnit (s : State) (v : Requester) (u : Fin 2) : (s.setRequester v).measUnit u = s.measUnit u := rfl
@[simp] theorem State.setRequester_seqUnit (s : State) (v : Requester) (j : Fin 2) : (s.setRequester v).seqUnit j = s.seqUnit j := rfl

@[simp] theorem State.setRsp_tickCtrl (s : State) (v : BusResponse) : (s.setRsp v).tickCtrl = s.tickCtrl := rfl
@[simp] theorem State.setRsp_tickReload (s : State) (v : BusResponse) : (s.setRsp v).tickReload = s.tickReload := rfl
@[simp] theorem State.setRsp_tickCurrent (s : State) (v : BusResponse) : (s.setRsp v).tickCurrent = s.tickCurrent := rfl
@[simp] theorem State.setRsp_ticks (s : State) (v : BusResponse) : (s.setRsp v).ticks = s.ticks := rfl
@[simp] theorem State.setRsp_pend (s : State) (v : BusResponse) : (s.setRsp v).pend = s.pend := rfl
@[simp] theorem State.setRsp_missed (s : State) (v : BusResponse) : (s.setRsp v).missed = s.missed := rfl
@[simp] theorem State.setRsp_ovrCnt (s : State) (v : BusResponse) : (s.setRsp v).ovrCnt = s.ovrCnt := rfl
@[simp] theorem State.setRsp_errCode (s : State) (v : BusResponse) : (s.setRsp v).errCode = s.errCode := rfl
@[simp] theorem State.setRsp_errInfo (s : State) (v : BusResponse) : (s.setRsp v).errInfo = s.errInfo := rfl
@[simp] theorem State.setRsp_flags (s : State) (v : BusResponse) : (s.setRsp v).flags = s.flags := rfl
@[simp] theorem State.setRsp_out (s : State) (v : BusResponse) : (s.setRsp v).out = s.out := rfl
@[simp] theorem State.setRsp_cnt (s : State) (v : BusResponse) : (s.setRsp v).cnt = s.cnt := rfl
@[simp] theorem State.setRsp_mask (s : State) (v : BusResponse) : (s.setRsp v).mask = s.mask := rfl
@[simp] theorem State.setRsp_tasks (s : State) (v : BusResponse) : (s.setRsp v).tasks = s.tasks := rfl
@[simp] theorem State.setRsp_lines (s : State) (v : BusResponse) : (s.setRsp v).lines = s.lines := rfl
@[simp] theorem State.setRsp_meas (s : State) (v : BusResponse) : (s.setRsp v).meas = s.meas := rfl
@[simp] theorem State.setRsp_seqs (s : State) (v : BusResponse) : (s.setRsp v).seqs = s.seqs := rfl
@[simp] theorem State.setRsp_requester (s : State) (v : BusResponse) : (s.setRsp v).requester = s.requester := rfl
@[simp] theorem State.setRsp_rsp (s : State) (v : BusResponse) : (s.setRsp v).rsp = v := rfl
@[simp] theorem State.setRsp_inputs (s : State) (v : BusResponse) : (s.setRsp v).inputs = s.inputs := rfl
@[simp] theorem State.setRsp_time (s : State) (v : BusResponse) : (s.setRsp v).time = s.time := rfl
@[simp] theorem State.setRsp_counter (s : State) (v : BusResponse) (c : Fin 4) : (s.setRsp v).counter c = s.counter c := rfl
@[simp] theorem State.setRsp_maskReg (s : State) (v : BusResponse) (m : Fin 8) : (s.setRsp v).maskReg m = s.maskReg m := rfl
@[simp] theorem State.setRsp_task (s : State) (v : BusResponse) (k : Fin 4) : (s.setRsp v).task k = s.task k := rfl
@[simp] theorem State.setRsp_line (s : State) (v : BusResponse) (i : Fin 4) : (s.setRsp v).line i = s.line i := rfl
@[simp] theorem State.setRsp_measUnit (s : State) (v : BusResponse) (u : Fin 2) : (s.setRsp v).measUnit u = s.measUnit u := rfl
@[simp] theorem State.setRsp_seqUnit (s : State) (v : BusResponse) (j : Fin 2) : (s.setRsp v).seqUnit j = s.seqUnit j := rfl

@[simp] theorem State.setCounter_tickCtrl (s : State) (c : Fin 4) (v : Word) : (s.setCounter c v).tickCtrl = s.tickCtrl := rfl
@[simp] theorem State.setCounter_tickReload (s : State) (c : Fin 4) (v : Word) : (s.setCounter c v).tickReload = s.tickReload := rfl
@[simp] theorem State.setCounter_tickCurrent (s : State) (c : Fin 4) (v : Word) : (s.setCounter c v).tickCurrent = s.tickCurrent := rfl
@[simp] theorem State.setCounter_ticks (s : State) (c : Fin 4) (v : Word) : (s.setCounter c v).ticks = s.ticks := rfl
@[simp] theorem State.setCounter_pend (s : State) (c : Fin 4) (v : Word) : (s.setCounter c v).pend = s.pend := rfl
@[simp] theorem State.setCounter_missed (s : State) (c : Fin 4) (v : Word) : (s.setCounter c v).missed = s.missed := rfl
@[simp] theorem State.setCounter_ovrCnt (s : State) (c : Fin 4) (v : Word) : (s.setCounter c v).ovrCnt = s.ovrCnt := rfl
@[simp] theorem State.setCounter_errCode (s : State) (c : Fin 4) (v : Word) : (s.setCounter c v).errCode = s.errCode := rfl
@[simp] theorem State.setCounter_errInfo (s : State) (c : Fin 4) (v : Word) : (s.setCounter c v).errInfo = s.errInfo := rfl
@[simp] theorem State.setCounter_flags (s : State) (c : Fin 4) (v : Word) : (s.setCounter c v).flags = s.flags := rfl
@[simp] theorem State.setCounter_out (s : State) (c : Fin 4) (v : Word) : (s.setCounter c v).out = s.out := rfl
@[simp] theorem State.setCounter_mask (s : State) (c : Fin 4) (v : Word) : (s.setCounter c v).mask = s.mask := rfl
@[simp] theorem State.setCounter_tasks (s : State) (c : Fin 4) (v : Word) : (s.setCounter c v).tasks = s.tasks := rfl
@[simp] theorem State.setCounter_lines (s : State) (c : Fin 4) (v : Word) : (s.setCounter c v).lines = s.lines := rfl
@[simp] theorem State.setCounter_meas (s : State) (c : Fin 4) (v : Word) : (s.setCounter c v).meas = s.meas := rfl
@[simp] theorem State.setCounter_seqs (s : State) (c : Fin 4) (v : Word) : (s.setCounter c v).seqs = s.seqs := rfl
@[simp] theorem State.setCounter_requester (s : State) (c : Fin 4) (v : Word) : (s.setCounter c v).requester = s.requester := rfl
@[simp] theorem State.setCounter_rsp (s : State) (c : Fin 4) (v : Word) : (s.setCounter c v).rsp = s.rsp := rfl
@[simp] theorem State.setCounter_inputs (s : State) (c : Fin 4) (v : Word) : (s.setCounter c v).inputs = s.inputs := rfl
@[simp] theorem State.setCounter_time (s : State) (c : Fin 4) (v : Word) : (s.setCounter c v).time = s.time := rfl
@[simp] theorem State.setCounter_maskReg (s : State) (c : Fin 4) (v : Word) (y : Fin 8) : (s.setCounter c v).maskReg y = s.maskReg y := rfl
@[simp] theorem State.setCounter_task (s : State) (c : Fin 4) (v : Word) (y : Fin 4) : (s.setCounter c v).task y = s.task y := rfl
@[simp] theorem State.setCounter_line (s : State) (c : Fin 4) (v : Word) (y : Fin 4) : (s.setCounter c v).line y = s.line y := rfl
@[simp] theorem State.setCounter_measUnit (s : State) (c : Fin 4) (v : Word) (y : Fin 2) : (s.setCounter c v).measUnit y = s.measUnit y := rfl
@[simp] theorem State.setCounter_seqUnit (s : State) (c : Fin 4) (v : Word) (y : Fin 2) : (s.setCounter c v).seqUnit y = s.seqUnit y := rfl

/-- Writing a register and reading one of the same kind. -/
theorem State.counter_setCounter (s : State) (c y : Fin 4) (v : Word) :
    (s.setCounter c v).counter y = if c = y then v else s.counter y := by
  simp [State.counter, State.setCounter, Vector.getElem_set, Fin.ext_iff]

@[simp] theorem State.counter_setCounter_same (s : State) (c : Fin 4) (v : Word) : (s.setCounter c v).counter c = v := by
  simp [State.counter_setCounter]

theorem State.counter_setCounter_ne (s : State) (c y : Fin 4) (v : Word) (h : c ≠ y) :
    (s.setCounter c v).counter y = s.counter y := by
  simp [State.counter_setCounter, h]

@[simp] theorem State.setMaskReg_tickCtrl (s : State) (m : Fin 8) (v : Word) : (s.setMaskReg m v).tickCtrl = s.tickCtrl := rfl
@[simp] theorem State.setMaskReg_tickReload (s : State) (m : Fin 8) (v : Word) : (s.setMaskReg m v).tickReload = s.tickReload := rfl
@[simp] theorem State.setMaskReg_tickCurrent (s : State) (m : Fin 8) (v : Word) : (s.setMaskReg m v).tickCurrent = s.tickCurrent := rfl
@[simp] theorem State.setMaskReg_ticks (s : State) (m : Fin 8) (v : Word) : (s.setMaskReg m v).ticks = s.ticks := rfl
@[simp] theorem State.setMaskReg_pend (s : State) (m : Fin 8) (v : Word) : (s.setMaskReg m v).pend = s.pend := rfl
@[simp] theorem State.setMaskReg_missed (s : State) (m : Fin 8) (v : Word) : (s.setMaskReg m v).missed = s.missed := rfl
@[simp] theorem State.setMaskReg_ovrCnt (s : State) (m : Fin 8) (v : Word) : (s.setMaskReg m v).ovrCnt = s.ovrCnt := rfl
@[simp] theorem State.setMaskReg_errCode (s : State) (m : Fin 8) (v : Word) : (s.setMaskReg m v).errCode = s.errCode := rfl
@[simp] theorem State.setMaskReg_errInfo (s : State) (m : Fin 8) (v : Word) : (s.setMaskReg m v).errInfo = s.errInfo := rfl
@[simp] theorem State.setMaskReg_flags (s : State) (m : Fin 8) (v : Word) : (s.setMaskReg m v).flags = s.flags := rfl
@[simp] theorem State.setMaskReg_out (s : State) (m : Fin 8) (v : Word) : (s.setMaskReg m v).out = s.out := rfl
@[simp] theorem State.setMaskReg_cnt (s : State) (m : Fin 8) (v : Word) : (s.setMaskReg m v).cnt = s.cnt := rfl
@[simp] theorem State.setMaskReg_tasks (s : State) (m : Fin 8) (v : Word) : (s.setMaskReg m v).tasks = s.tasks := rfl
@[simp] theorem State.setMaskReg_lines (s : State) (m : Fin 8) (v : Word) : (s.setMaskReg m v).lines = s.lines := rfl
@[simp] theorem State.setMaskReg_meas (s : State) (m : Fin 8) (v : Word) : (s.setMaskReg m v).meas = s.meas := rfl
@[simp] theorem State.setMaskReg_seqs (s : State) (m : Fin 8) (v : Word) : (s.setMaskReg m v).seqs = s.seqs := rfl
@[simp] theorem State.setMaskReg_requester (s : State) (m : Fin 8) (v : Word) : (s.setMaskReg m v).requester = s.requester := rfl
@[simp] theorem State.setMaskReg_rsp (s : State) (m : Fin 8) (v : Word) : (s.setMaskReg m v).rsp = s.rsp := rfl
@[simp] theorem State.setMaskReg_inputs (s : State) (m : Fin 8) (v : Word) : (s.setMaskReg m v).inputs = s.inputs := rfl
@[simp] theorem State.setMaskReg_time (s : State) (m : Fin 8) (v : Word) : (s.setMaskReg m v).time = s.time := rfl
@[simp] theorem State.setMaskReg_counter (s : State) (m : Fin 8) (v : Word) (y : Fin 4) : (s.setMaskReg m v).counter y = s.counter y := rfl
@[simp] theorem State.setMaskReg_task (s : State) (m : Fin 8) (v : Word) (y : Fin 4) : (s.setMaskReg m v).task y = s.task y := rfl
@[simp] theorem State.setMaskReg_line (s : State) (m : Fin 8) (v : Word) (y : Fin 4) : (s.setMaskReg m v).line y = s.line y := rfl
@[simp] theorem State.setMaskReg_measUnit (s : State) (m : Fin 8) (v : Word) (y : Fin 2) : (s.setMaskReg m v).measUnit y = s.measUnit y := rfl
@[simp] theorem State.setMaskReg_seqUnit (s : State) (m : Fin 8) (v : Word) (y : Fin 2) : (s.setMaskReg m v).seqUnit y = s.seqUnit y := rfl

/-- Writing a register and reading one of the same kind. -/
theorem State.maskReg_setMaskReg (s : State) (m y : Fin 8) (v : Word) :
    (s.setMaskReg m v).maskReg y = if m = y then v else s.maskReg y := by
  simp [State.maskReg, State.setMaskReg, Vector.getElem_set, Fin.ext_iff]

@[simp] theorem State.maskReg_setMaskReg_same (s : State) (m : Fin 8) (v : Word) : (s.setMaskReg m v).maskReg m = v := by
  simp [State.maskReg_setMaskReg]

theorem State.maskReg_setMaskReg_ne (s : State) (m y : Fin 8) (v : Word) (h : m ≠ y) :
    (s.setMaskReg m v).maskReg y = s.maskReg y := by
  simp [State.maskReg_setMaskReg, h]

@[simp] theorem State.setTask_tickCtrl (s : State) (k : Fin 4) (v : Task) : (s.setTask k v).tickCtrl = s.tickCtrl := rfl
@[simp] theorem State.setTask_tickReload (s : State) (k : Fin 4) (v : Task) : (s.setTask k v).tickReload = s.tickReload := rfl
@[simp] theorem State.setTask_tickCurrent (s : State) (k : Fin 4) (v : Task) : (s.setTask k v).tickCurrent = s.tickCurrent := rfl
@[simp] theorem State.setTask_ticks (s : State) (k : Fin 4) (v : Task) : (s.setTask k v).ticks = s.ticks := rfl
@[simp] theorem State.setTask_pend (s : State) (k : Fin 4) (v : Task) : (s.setTask k v).pend = s.pend := rfl
@[simp] theorem State.setTask_missed (s : State) (k : Fin 4) (v : Task) : (s.setTask k v).missed = s.missed := rfl
@[simp] theorem State.setTask_ovrCnt (s : State) (k : Fin 4) (v : Task) : (s.setTask k v).ovrCnt = s.ovrCnt := rfl
@[simp] theorem State.setTask_errCode (s : State) (k : Fin 4) (v : Task) : (s.setTask k v).errCode = s.errCode := rfl
@[simp] theorem State.setTask_errInfo (s : State) (k : Fin 4) (v : Task) : (s.setTask k v).errInfo = s.errInfo := rfl
@[simp] theorem State.setTask_flags (s : State) (k : Fin 4) (v : Task) : (s.setTask k v).flags = s.flags := rfl
@[simp] theorem State.setTask_out (s : State) (k : Fin 4) (v : Task) : (s.setTask k v).out = s.out := rfl
@[simp] theorem State.setTask_cnt (s : State) (k : Fin 4) (v : Task) : (s.setTask k v).cnt = s.cnt := rfl
@[simp] theorem State.setTask_mask (s : State) (k : Fin 4) (v : Task) : (s.setTask k v).mask = s.mask := rfl
@[simp] theorem State.setTask_lines (s : State) (k : Fin 4) (v : Task) : (s.setTask k v).lines = s.lines := rfl
@[simp] theorem State.setTask_meas (s : State) (k : Fin 4) (v : Task) : (s.setTask k v).meas = s.meas := rfl
@[simp] theorem State.setTask_seqs (s : State) (k : Fin 4) (v : Task) : (s.setTask k v).seqs = s.seqs := rfl
@[simp] theorem State.setTask_requester (s : State) (k : Fin 4) (v : Task) : (s.setTask k v).requester = s.requester := rfl
@[simp] theorem State.setTask_rsp (s : State) (k : Fin 4) (v : Task) : (s.setTask k v).rsp = s.rsp := rfl
@[simp] theorem State.setTask_inputs (s : State) (k : Fin 4) (v : Task) : (s.setTask k v).inputs = s.inputs := rfl
@[simp] theorem State.setTask_time (s : State) (k : Fin 4) (v : Task) : (s.setTask k v).time = s.time := rfl
@[simp] theorem State.setTask_counter (s : State) (k : Fin 4) (v : Task) (y : Fin 4) : (s.setTask k v).counter y = s.counter y := rfl
@[simp] theorem State.setTask_maskReg (s : State) (k : Fin 4) (v : Task) (y : Fin 8) : (s.setTask k v).maskReg y = s.maskReg y := rfl
@[simp] theorem State.setTask_line (s : State) (k : Fin 4) (v : Task) (y : Fin 4) : (s.setTask k v).line y = s.line y := rfl
@[simp] theorem State.setTask_measUnit (s : State) (k : Fin 4) (v : Task) (y : Fin 2) : (s.setTask k v).measUnit y = s.measUnit y := rfl
@[simp] theorem State.setTask_seqUnit (s : State) (k : Fin 4) (v : Task) (y : Fin 2) : (s.setTask k v).seqUnit y = s.seqUnit y := rfl

/-- Writing a register and reading one of the same kind. -/
theorem State.task_setTask (s : State) (k y : Fin 4) (v : Task) :
    (s.setTask k v).task y = if k = y then v else s.task y := by
  simp [State.task, State.setTask, Vector.getElem_set, Fin.ext_iff]

@[simp] theorem State.task_setTask_same (s : State) (k : Fin 4) (v : Task) : (s.setTask k v).task k = v := by
  simp [State.task_setTask]

theorem State.task_setTask_ne (s : State) (k y : Fin 4) (v : Task) (h : k ≠ y) :
    (s.setTask k v).task y = s.task y := by
  simp [State.task_setTask, h]

@[simp] theorem State.setLine_tickCtrl (s : State) (i : Fin 4) (v : Line) : (s.setLine i v).tickCtrl = s.tickCtrl := rfl
@[simp] theorem State.setLine_tickReload (s : State) (i : Fin 4) (v : Line) : (s.setLine i v).tickReload = s.tickReload := rfl
@[simp] theorem State.setLine_tickCurrent (s : State) (i : Fin 4) (v : Line) : (s.setLine i v).tickCurrent = s.tickCurrent := rfl
@[simp] theorem State.setLine_ticks (s : State) (i : Fin 4) (v : Line) : (s.setLine i v).ticks = s.ticks := rfl
@[simp] theorem State.setLine_pend (s : State) (i : Fin 4) (v : Line) : (s.setLine i v).pend = s.pend := rfl
@[simp] theorem State.setLine_missed (s : State) (i : Fin 4) (v : Line) : (s.setLine i v).missed = s.missed := rfl
@[simp] theorem State.setLine_ovrCnt (s : State) (i : Fin 4) (v : Line) : (s.setLine i v).ovrCnt = s.ovrCnt := rfl
@[simp] theorem State.setLine_errCode (s : State) (i : Fin 4) (v : Line) : (s.setLine i v).errCode = s.errCode := rfl
@[simp] theorem State.setLine_errInfo (s : State) (i : Fin 4) (v : Line) : (s.setLine i v).errInfo = s.errInfo := rfl
@[simp] theorem State.setLine_flags (s : State) (i : Fin 4) (v : Line) : (s.setLine i v).flags = s.flags := rfl
@[simp] theorem State.setLine_out (s : State) (i : Fin 4) (v : Line) : (s.setLine i v).out = s.out := rfl
@[simp] theorem State.setLine_cnt (s : State) (i : Fin 4) (v : Line) : (s.setLine i v).cnt = s.cnt := rfl
@[simp] theorem State.setLine_mask (s : State) (i : Fin 4) (v : Line) : (s.setLine i v).mask = s.mask := rfl
@[simp] theorem State.setLine_tasks (s : State) (i : Fin 4) (v : Line) : (s.setLine i v).tasks = s.tasks := rfl
@[simp] theorem State.setLine_meas (s : State) (i : Fin 4) (v : Line) : (s.setLine i v).meas = s.meas := rfl
@[simp] theorem State.setLine_seqs (s : State) (i : Fin 4) (v : Line) : (s.setLine i v).seqs = s.seqs := rfl
@[simp] theorem State.setLine_requester (s : State) (i : Fin 4) (v : Line) : (s.setLine i v).requester = s.requester := rfl
@[simp] theorem State.setLine_rsp (s : State) (i : Fin 4) (v : Line) : (s.setLine i v).rsp = s.rsp := rfl
@[simp] theorem State.setLine_inputs (s : State) (i : Fin 4) (v : Line) : (s.setLine i v).inputs = s.inputs := rfl
@[simp] theorem State.setLine_time (s : State) (i : Fin 4) (v : Line) : (s.setLine i v).time = s.time := rfl
@[simp] theorem State.setLine_counter (s : State) (i : Fin 4) (v : Line) (y : Fin 4) : (s.setLine i v).counter y = s.counter y := rfl
@[simp] theorem State.setLine_maskReg (s : State) (i : Fin 4) (v : Line) (y : Fin 8) : (s.setLine i v).maskReg y = s.maskReg y := rfl
@[simp] theorem State.setLine_task (s : State) (i : Fin 4) (v : Line) (y : Fin 4) : (s.setLine i v).task y = s.task y := rfl
@[simp] theorem State.setLine_measUnit (s : State) (i : Fin 4) (v : Line) (y : Fin 2) : (s.setLine i v).measUnit y = s.measUnit y := rfl
@[simp] theorem State.setLine_seqUnit (s : State) (i : Fin 4) (v : Line) (y : Fin 2) : (s.setLine i v).seqUnit y = s.seqUnit y := rfl

/-- Writing a register and reading one of the same kind. -/
theorem State.line_setLine (s : State) (i y : Fin 4) (v : Line) :
    (s.setLine i v).line y = if i = y then v else s.line y := by
  simp [State.line, State.setLine, Vector.getElem_set, Fin.ext_iff]

@[simp] theorem State.line_setLine_same (s : State) (i : Fin 4) (v : Line) : (s.setLine i v).line i = v := by
  simp [State.line_setLine]

theorem State.line_setLine_ne (s : State) (i y : Fin 4) (v : Line) (h : i ≠ y) :
    (s.setLine i v).line y = s.line y := by
  simp [State.line_setLine, h]

@[simp] theorem State.setMeasUnit_tickCtrl (s : State) (u : Fin 2) (v : Meas) : (s.setMeasUnit u v).tickCtrl = s.tickCtrl := rfl
@[simp] theorem State.setMeasUnit_tickReload (s : State) (u : Fin 2) (v : Meas) : (s.setMeasUnit u v).tickReload = s.tickReload := rfl
@[simp] theorem State.setMeasUnit_tickCurrent (s : State) (u : Fin 2) (v : Meas) : (s.setMeasUnit u v).tickCurrent = s.tickCurrent := rfl
@[simp] theorem State.setMeasUnit_ticks (s : State) (u : Fin 2) (v : Meas) : (s.setMeasUnit u v).ticks = s.ticks := rfl
@[simp] theorem State.setMeasUnit_pend (s : State) (u : Fin 2) (v : Meas) : (s.setMeasUnit u v).pend = s.pend := rfl
@[simp] theorem State.setMeasUnit_missed (s : State) (u : Fin 2) (v : Meas) : (s.setMeasUnit u v).missed = s.missed := rfl
@[simp] theorem State.setMeasUnit_ovrCnt (s : State) (u : Fin 2) (v : Meas) : (s.setMeasUnit u v).ovrCnt = s.ovrCnt := rfl
@[simp] theorem State.setMeasUnit_errCode (s : State) (u : Fin 2) (v : Meas) : (s.setMeasUnit u v).errCode = s.errCode := rfl
@[simp] theorem State.setMeasUnit_errInfo (s : State) (u : Fin 2) (v : Meas) : (s.setMeasUnit u v).errInfo = s.errInfo := rfl
@[simp] theorem State.setMeasUnit_flags (s : State) (u : Fin 2) (v : Meas) : (s.setMeasUnit u v).flags = s.flags := rfl
@[simp] theorem State.setMeasUnit_out (s : State) (u : Fin 2) (v : Meas) : (s.setMeasUnit u v).out = s.out := rfl
@[simp] theorem State.setMeasUnit_cnt (s : State) (u : Fin 2) (v : Meas) : (s.setMeasUnit u v).cnt = s.cnt := rfl
@[simp] theorem State.setMeasUnit_mask (s : State) (u : Fin 2) (v : Meas) : (s.setMeasUnit u v).mask = s.mask := rfl
@[simp] theorem State.setMeasUnit_tasks (s : State) (u : Fin 2) (v : Meas) : (s.setMeasUnit u v).tasks = s.tasks := rfl
@[simp] theorem State.setMeasUnit_lines (s : State) (u : Fin 2) (v : Meas) : (s.setMeasUnit u v).lines = s.lines := rfl
@[simp] theorem State.setMeasUnit_seqs (s : State) (u : Fin 2) (v : Meas) : (s.setMeasUnit u v).seqs = s.seqs := rfl
@[simp] theorem State.setMeasUnit_requester (s : State) (u : Fin 2) (v : Meas) : (s.setMeasUnit u v).requester = s.requester := rfl
@[simp] theorem State.setMeasUnit_rsp (s : State) (u : Fin 2) (v : Meas) : (s.setMeasUnit u v).rsp = s.rsp := rfl
@[simp] theorem State.setMeasUnit_inputs (s : State) (u : Fin 2) (v : Meas) : (s.setMeasUnit u v).inputs = s.inputs := rfl
@[simp] theorem State.setMeasUnit_time (s : State) (u : Fin 2) (v : Meas) : (s.setMeasUnit u v).time = s.time := rfl
@[simp] theorem State.setMeasUnit_counter (s : State) (u : Fin 2) (v : Meas) (y : Fin 4) : (s.setMeasUnit u v).counter y = s.counter y := rfl
@[simp] theorem State.setMeasUnit_maskReg (s : State) (u : Fin 2) (v : Meas) (y : Fin 8) : (s.setMeasUnit u v).maskReg y = s.maskReg y := rfl
@[simp] theorem State.setMeasUnit_task (s : State) (u : Fin 2) (v : Meas) (y : Fin 4) : (s.setMeasUnit u v).task y = s.task y := rfl
@[simp] theorem State.setMeasUnit_line (s : State) (u : Fin 2) (v : Meas) (y : Fin 4) : (s.setMeasUnit u v).line y = s.line y := rfl
@[simp] theorem State.setMeasUnit_seqUnit (s : State) (u : Fin 2) (v : Meas) (y : Fin 2) : (s.setMeasUnit u v).seqUnit y = s.seqUnit y := rfl

/-- Writing a register and reading one of the same kind. -/
theorem State.measUnit_setMeasUnit (s : State) (u y : Fin 2) (v : Meas) :
    (s.setMeasUnit u v).measUnit y = if u = y then v else s.measUnit y := by
  simp [State.measUnit, State.setMeasUnit, Vector.getElem_set, Fin.ext_iff]

@[simp] theorem State.measUnit_setMeasUnit_same (s : State) (u : Fin 2) (v : Meas) : (s.setMeasUnit u v).measUnit u = v := by
  simp [State.measUnit_setMeasUnit]

theorem State.measUnit_setMeasUnit_ne (s : State) (u y : Fin 2) (v : Meas) (h : u ≠ y) :
    (s.setMeasUnit u v).measUnit y = s.measUnit y := by
  simp [State.measUnit_setMeasUnit, h]

@[simp] theorem State.setSeqUnit_tickCtrl (s : State) (j : Fin 2) (v : SeqUnit) : (s.setSeqUnit j v).tickCtrl = s.tickCtrl := rfl
@[simp] theorem State.setSeqUnit_tickReload (s : State) (j : Fin 2) (v : SeqUnit) : (s.setSeqUnit j v).tickReload = s.tickReload := rfl
@[simp] theorem State.setSeqUnit_tickCurrent (s : State) (j : Fin 2) (v : SeqUnit) : (s.setSeqUnit j v).tickCurrent = s.tickCurrent := rfl
@[simp] theorem State.setSeqUnit_ticks (s : State) (j : Fin 2) (v : SeqUnit) : (s.setSeqUnit j v).ticks = s.ticks := rfl
@[simp] theorem State.setSeqUnit_pend (s : State) (j : Fin 2) (v : SeqUnit) : (s.setSeqUnit j v).pend = s.pend := rfl
@[simp] theorem State.setSeqUnit_missed (s : State) (j : Fin 2) (v : SeqUnit) : (s.setSeqUnit j v).missed = s.missed := rfl
@[simp] theorem State.setSeqUnit_ovrCnt (s : State) (j : Fin 2) (v : SeqUnit) : (s.setSeqUnit j v).ovrCnt = s.ovrCnt := rfl
@[simp] theorem State.setSeqUnit_errCode (s : State) (j : Fin 2) (v : SeqUnit) : (s.setSeqUnit j v).errCode = s.errCode := rfl
@[simp] theorem State.setSeqUnit_errInfo (s : State) (j : Fin 2) (v : SeqUnit) : (s.setSeqUnit j v).errInfo = s.errInfo := rfl
@[simp] theorem State.setSeqUnit_flags (s : State) (j : Fin 2) (v : SeqUnit) : (s.setSeqUnit j v).flags = s.flags := rfl
@[simp] theorem State.setSeqUnit_out (s : State) (j : Fin 2) (v : SeqUnit) : (s.setSeqUnit j v).out = s.out := rfl
@[simp] theorem State.setSeqUnit_cnt (s : State) (j : Fin 2) (v : SeqUnit) : (s.setSeqUnit j v).cnt = s.cnt := rfl
@[simp] theorem State.setSeqUnit_mask (s : State) (j : Fin 2) (v : SeqUnit) : (s.setSeqUnit j v).mask = s.mask := rfl
@[simp] theorem State.setSeqUnit_tasks (s : State) (j : Fin 2) (v : SeqUnit) : (s.setSeqUnit j v).tasks = s.tasks := rfl
@[simp] theorem State.setSeqUnit_lines (s : State) (j : Fin 2) (v : SeqUnit) : (s.setSeqUnit j v).lines = s.lines := rfl
@[simp] theorem State.setSeqUnit_meas (s : State) (j : Fin 2) (v : SeqUnit) : (s.setSeqUnit j v).meas = s.meas := rfl
@[simp] theorem State.setSeqUnit_requester (s : State) (j : Fin 2) (v : SeqUnit) : (s.setSeqUnit j v).requester = s.requester := rfl
@[simp] theorem State.setSeqUnit_rsp (s : State) (j : Fin 2) (v : SeqUnit) : (s.setSeqUnit j v).rsp = s.rsp := rfl
@[simp] theorem State.setSeqUnit_inputs (s : State) (j : Fin 2) (v : SeqUnit) : (s.setSeqUnit j v).inputs = s.inputs := rfl
@[simp] theorem State.setSeqUnit_time (s : State) (j : Fin 2) (v : SeqUnit) : (s.setSeqUnit j v).time = s.time := rfl
@[simp] theorem State.setSeqUnit_counter (s : State) (j : Fin 2) (v : SeqUnit) (y : Fin 4) : (s.setSeqUnit j v).counter y = s.counter y := rfl
@[simp] theorem State.setSeqUnit_maskReg (s : State) (j : Fin 2) (v : SeqUnit) (y : Fin 8) : (s.setSeqUnit j v).maskReg y = s.maskReg y := rfl
@[simp] theorem State.setSeqUnit_task (s : State) (j : Fin 2) (v : SeqUnit) (y : Fin 4) : (s.setSeqUnit j v).task y = s.task y := rfl
@[simp] theorem State.setSeqUnit_line (s : State) (j : Fin 2) (v : SeqUnit) (y : Fin 4) : (s.setSeqUnit j v).line y = s.line y := rfl
@[simp] theorem State.setSeqUnit_measUnit (s : State) (j : Fin 2) (v : SeqUnit) (y : Fin 2) : (s.setSeqUnit j v).measUnit y = s.measUnit y := rfl

/-- Writing a register and reading one of the same kind. -/
theorem State.seqUnit_setSeqUnit (s : State) (j y : Fin 2) (v : SeqUnit) :
    (s.setSeqUnit j v).seqUnit y = if j = y then v else s.seqUnit y := by
  simp [State.seqUnit, State.setSeqUnit, Vector.getElem_set, Fin.ext_iff]

@[simp] theorem State.seqUnit_setSeqUnit_same (s : State) (j : Fin 2) (v : SeqUnit) : (s.setSeqUnit j v).seqUnit j = v := by
  simp [State.seqUnit_setSeqUnit]

theorem State.seqUnit_setSeqUnit_ne (s : State) (j y : Fin 2) (v : SeqUnit) (h : j ≠ y) :
    (s.setSeqUnit j v).seqUnit y = s.seqUnit y := by
  simp [State.seqUnit_setSeqUnit, h]

end Sys2Proof.Machine
end

