-- ==== Sys2Proof/Laws/Ops.lean ====
section
/-! SUPPORT. The small lemmas of the shared operations: sequencing, error capture, single-field updates of slots and
units, and the operand shells. -/

namespace Sys2Proof.Machine

@[simp] theorem andThen_next (s : State) (f : State → Result) : andThen (.next s) f = f s := rfl

/-- When a sequence answers a next state, both parts did. -/
theorem andThen_eq_next (r : Result) (f : State → Result) (t : State) :
    andThen r f = .next t ↔ ∃ u, r = .next u ∧ f u = .next t := by
  cases r <;> simp [andThen]

@[simp] theorem forEach_nil {α : Type} (f : α → State → Result) (s : State) : forEach [] f s = .next s := rfl

@[simp] theorem forEach_cons {α : Type} (a : α) (l : List α) (f : α → State → Result) (s : State) :
    forEach (a :: l) f s = andThen (f a s) (forEach l f) := rfl

/-! raiseError and clearError: what they change and what they leave. -/

/-- Everything raising an error can do (R322). -/
theorem raiseError_cases (code : ErrCause) (src : Source) (idx : Fin 4) (info : Word) (s : State) :
    (s.pend.err = true ∧ raiseError code src idx info s = s.setErrCode { s.errCode with multi := true }) ∨
      (s.pend.err = false ∧
        raiseError code src idx info s =
          ((s.setErrCode { code := code, src := src, idx := idx, multi := false }).setErrInfo info).setPend
            { s.pend with err := true }) := by
  unfold raiseError
  cases h : s.pend.err <;> simp

@[simp] theorem raiseError_tickCtrl (code : ErrCause) (src : Source) (idx : Fin 4) (info : Word) (s : State) :
    (raiseError code src idx info s).tickCtrl = s.tickCtrl := by
  unfold raiseError; split <;> rfl

@[simp] theorem clearError_tickCtrl (s : State) : (clearError s).tickCtrl = s.tickCtrl := rfl

@[simp] theorem raiseError_tickReload (code : ErrCause) (src : Source) (idx : Fin 4) (info : Word) (s : State) :
    (raiseError code src idx info s).tickReload = s.tickReload := by
  unfold raiseError; split <;> rfl

@[simp] theorem clearError_tickReload (s : State) : (clearError s).tickReload = s.tickReload := rfl

@[simp] theorem raiseError_tickCurrent (code : ErrCause) (src : Source) (idx : Fin 4) (info : Word) (s : State) :
    (raiseError code src idx info s).tickCurrent = s.tickCurrent := by
  unfold raiseError; split <;> rfl

@[simp] theorem clearError_tickCurrent (s : State) : (clearError s).tickCurrent = s.tickCurrent := rfl

@[simp] theorem raiseError_ticks (code : ErrCause) (src : Source) (idx : Fin 4) (info : Word) (s : State) :
    (raiseError code src idx info s).ticks = s.ticks := by
  unfold raiseError; split <;> rfl

@[simp] theorem clearError_ticks (s : State) : (clearError s).ticks = s.ticks := rfl

@[simp] theorem raiseError_missed (code : ErrCause) (src : Source) (idx : Fin 4) (info : Word) (s : State) :
    (raiseError code src idx info s).missed = s.missed := by
  unfold raiseError; split <;> rfl

@[simp] theorem clearError_missed (s : State) : (clearError s).missed = s.missed := rfl

@[simp] theorem raiseError_ovrCnt (code : ErrCause) (src : Source) (idx : Fin 4) (info : Word) (s : State) :
    (raiseError code src idx info s).ovrCnt = s.ovrCnt := by
  unfold raiseError; split <;> rfl

@[simp] theorem clearError_ovrCnt (s : State) : (clearError s).ovrCnt = s.ovrCnt := rfl

@[simp] theorem raiseError_flags (code : ErrCause) (src : Source) (idx : Fin 4) (info : Word) (s : State) :
    (raiseError code src idx info s).flags = s.flags := by
  unfold raiseError; split <;> rfl

@[simp] theorem clearError_flags (s : State) : (clearError s).flags = s.flags := rfl

@[simp] theorem raiseError_out (code : ErrCause) (src : Source) (idx : Fin 4) (info : Word) (s : State) :
    (raiseError code src idx info s).out = s.out := by
  unfold raiseError; split <;> rfl

@[simp] theorem clearError_out (s : State) : (clearError s).out = s.out := rfl

@[simp] theorem raiseError_cnt (code : ErrCause) (src : Source) (idx : Fin 4) (info : Word) (s : State) :
    (raiseError code src idx info s).cnt = s.cnt := by
  unfold raiseError; split <;> rfl

@[simp] theorem clearError_cnt (s : State) : (clearError s).cnt = s.cnt := rfl

@[simp] theorem raiseError_mask (code : ErrCause) (src : Source) (idx : Fin 4) (info : Word) (s : State) :
    (raiseError code src idx info s).mask = s.mask := by
  unfold raiseError; split <;> rfl

@[simp] theorem clearError_mask (s : State) : (clearError s).mask = s.mask := rfl

@[simp] theorem raiseError_tasks (code : ErrCause) (src : Source) (idx : Fin 4) (info : Word) (s : State) :
    (raiseError code src idx info s).tasks = s.tasks := by
  unfold raiseError; split <;> rfl

@[simp] theorem clearError_tasks (s : State) : (clearError s).tasks = s.tasks := rfl

@[simp] theorem raiseError_lines (code : ErrCause) (src : Source) (idx : Fin 4) (info : Word) (s : State) :
    (raiseError code src idx info s).lines = s.lines := by
  unfold raiseError; split <;> rfl

@[simp] theorem clearError_lines (s : State) : (clearError s).lines = s.lines := rfl

@[simp] theorem raiseError_meas (code : ErrCause) (src : Source) (idx : Fin 4) (info : Word) (s : State) :
    (raiseError code src idx info s).meas = s.meas := by
  unfold raiseError; split <;> rfl

@[simp] theorem clearError_meas (s : State) : (clearError s).meas = s.meas := rfl

@[simp] theorem raiseError_seqs (code : ErrCause) (src : Source) (idx : Fin 4) (info : Word) (s : State) :
    (raiseError code src idx info s).seqs = s.seqs := by
  unfold raiseError; split <;> rfl

@[simp] theorem clearError_seqs (s : State) : (clearError s).seqs = s.seqs := rfl

@[simp] theorem raiseError_requester (code : ErrCause) (src : Source) (idx : Fin 4) (info : Word) (s : State) :
    (raiseError code src idx info s).requester = s.requester := by
  unfold raiseError; split <;> rfl

@[simp] theorem clearError_requester (s : State) : (clearError s).requester = s.requester := rfl

@[simp] theorem raiseError_rsp (code : ErrCause) (src : Source) (idx : Fin 4) (info : Word) (s : State) :
    (raiseError code src idx info s).rsp = s.rsp := by
  unfold raiseError; split <;> rfl

@[simp] theorem clearError_rsp (s : State) : (clearError s).rsp = s.rsp := rfl

@[simp] theorem raiseError_inputs (code : ErrCause) (src : Source) (idx : Fin 4) (info : Word) (s : State) :
    (raiseError code src idx info s).inputs = s.inputs := by
  unfold raiseError; split <;> rfl

@[simp] theorem clearError_inputs (s : State) : (clearError s).inputs = s.inputs := rfl

@[simp] theorem raiseError_time (code : ErrCause) (src : Source) (idx : Fin 4) (info : Word) (s : State) :
    (raiseError code src idx info s).time = s.time := by
  unfold raiseError; split <;> rfl

@[simp] theorem clearError_time (s : State) : (clearError s).time = s.time := rfl

@[simp] theorem raiseError_counter (code : ErrCause) (src : Source) (idx : Fin 4) (info : Word) (s : State) (y : Fin 4) :
    (raiseError code src idx info s).counter y = s.counter y := by
  unfold raiseError; split <;> rfl

@[simp] theorem raiseError_maskReg (code : ErrCause) (src : Source) (idx : Fin 4) (info : Word) (s : State) (y : Fin 8) :
    (raiseError code src idx info s).maskReg y = s.maskReg y := by
  unfold raiseError; split <;> rfl

@[simp] theorem raiseError_task (code : ErrCause) (src : Source) (idx : Fin 4) (info : Word) (s : State) (y : Fin 4) :
    (raiseError code src idx info s).task y = s.task y := by
  unfold raiseError; split <;> rfl

@[simp] theorem raiseError_line (code : ErrCause) (src : Source) (idx : Fin 4) (info : Word) (s : State) (y : Fin 4) :
    (raiseError code src idx info s).line y = s.line y := by
  unfold raiseError; split <;> rfl

@[simp] theorem raiseError_measUnit (code : ErrCause) (src : Source) (idx : Fin 4) (info : Word) (s : State) (y : Fin 2) :
    (raiseError code src idx info s).measUnit y = s.measUnit y := by
  unfold raiseError; split <;> rfl

@[simp] theorem raiseError_seqUnit (code : ErrCause) (src : Source) (idx : Fin 4) (info : Word) (s : State) (y : Fin 2) :
    (raiseError code src idx info s).seqUnit y = s.seqUnit y := by
  unfold raiseError; split <;> rfl

@[simp] theorem raiseError_pend_tick (code : ErrCause) (src : Source) (idx : Fin 4) (info : Word) (s : State) :
    (raiseError code src idx info s).pend.tick = s.pend.tick := by
  unfold raiseError; split <;> rfl

@[simp] theorem raiseError_pend_task (code : ErrCause) (src : Source) (idx : Fin 4) (info : Word) (s : State) :
    (raiseError code src idx info s).pend.task = s.pend.task := by
  unfold raiseError; split <;> rfl

@[simp] theorem raiseError_pend_line (code : ErrCause) (src : Source) (idx : Fin 4) (info : Word) (s : State) :
    (raiseError code src idx info s).pend.line = s.pend.line := by
  unfold raiseError; split <;> rfl

@[simp] theorem raiseError_pend_err (code : ErrCause) (src : Source) (idx : Fin 4) (info : Word) (s : State) :
    (raiseError code src idx info s).pend.err = true := by
  unfold raiseError; split
  · assumption
  · rfl

/-! setCount, setTaskEn and setCursor. -/

@[simp] theorem State.setCount_tickCtrl (s : State) (k : Fin 4) (v : Word) : (s.setCount k v).tickCtrl = s.tickCtrl := rfl
@[simp] theorem State.setCount_tickReload (s : State) (k : Fin 4) (v : Word) : (s.setCount k v).tickReload = s.tickReload := rfl
@[simp] theorem State.setCount_tickCurrent (s : State) (k : Fin 4) (v : Word) : (s.setCount k v).tickCurrent = s.tickCurrent := rfl
@[simp] theorem State.setCount_ticks (s : State) (k : Fin 4) (v : Word) : (s.setCount k v).ticks = s.ticks := rfl
@[simp] theorem State.setCount_pend (s : State) (k : Fin 4) (v : Word) : (s.setCount k v).pend = s.pend := rfl
@[simp] theorem State.setCount_missed (s : State) (k : Fin 4) (v : Word) : (s.setCount k v).missed = s.missed := rfl
@[simp] theorem State.setCount_ovrCnt (s : State) (k : Fin 4) (v : Word) : (s.setCount k v).ovrCnt = s.ovrCnt := rfl
@[simp] theorem State.setCount_errCode (s : State) (k : Fin 4) (v : Word) : (s.setCount k v).errCode = s.errCode := rfl
@[simp] theorem State.setCount_errInfo (s : State) (k : Fin 4) (v : Word) : (s.setCount k v).errInfo = s.errInfo := rfl
@[simp] theorem State.setCount_flags (s : State) (k : Fin 4) (v : Word) : (s.setCount k v).flags = s.flags := rfl
@[simp] theorem State.setCount_out (s : State) (k : Fin 4) (v : Word) : (s.setCount k v).out = s.out := rfl
@[simp] theorem State.setCount_cnt (s : State) (k : Fin 4) (v : Word) : (s.setCount k v).cnt = s.cnt := rfl
@[simp] theorem State.setCount_mask (s : State) (k : Fin 4) (v : Word) : (s.setCount k v).mask = s.mask := rfl
@[simp] theorem State.setCount_lines (s : State) (k : Fin 4) (v : Word) : (s.setCount k v).lines = s.lines := rfl
@[simp] theorem State.setCount_meas (s : State) (k : Fin 4) (v : Word) : (s.setCount k v).meas = s.meas := rfl
@[simp] theorem State.setCount_seqs (s : State) (k : Fin 4) (v : Word) : (s.setCount k v).seqs = s.seqs := rfl
@[simp] theorem State.setCount_requester (s : State) (k : Fin 4) (v : Word) : (s.setCount k v).requester = s.requester := rfl
@[simp] theorem State.setCount_rsp (s : State) (k : Fin 4) (v : Word) : (s.setCount k v).rsp = s.rsp := rfl
@[simp] theorem State.setCount_inputs (s : State) (k : Fin 4) (v : Word) : (s.setCount k v).inputs = s.inputs := rfl
@[simp] theorem State.setCount_time (s : State) (k : Fin 4) (v : Word) : (s.setCount k v).time = s.time := rfl
@[simp] theorem State.setCount_counter (s : State) (k : Fin 4) (v : Word) (y : Fin 4) : (s.setCount k v).counter y = s.counter y := rfl
@[simp] theorem State.setCount_maskReg (s : State) (k : Fin 4) (v : Word) (y : Fin 8) : (s.setCount k v).maskReg y = s.maskReg y := rfl
@[simp] theorem State.setCount_line (s : State) (k : Fin 4) (v : Word) (y : Fin 4) : (s.setCount k v).line y = s.line y := rfl
@[simp] theorem State.setCount_measUnit (s : State) (k : Fin 4) (v : Word) (y : Fin 2) : (s.setCount k v).measUnit y = s.measUnit y := rfl
@[simp] theorem State.setCount_seqUnit (s : State) (k : Fin 4) (v : Word) (y : Fin 2) : (s.setCount k v).seqUnit y = s.seqUnit y := rfl

@[simp] theorem State.setTaskEn_tickCtrl (s : State) (k : Fin 4) (b : Bool) : (s.setTaskEn k b).tickCtrl = s.tickCtrl := rfl
@[simp] theorem State.setTaskEn_tickReload (s : State) (k : Fin 4) (b : Bool) : (s.setTaskEn k b).tickReload = s.tickReload := rfl
@[simp] theorem State.setTaskEn_tickCurrent (s : State) (k : Fin 4) (b : Bool) : (s.setTaskEn k b).tickCurrent = s.tickCurrent := rfl
@[simp] theorem State.setTaskEn_ticks (s : State) (k : Fin 4) (b : Bool) : (s.setTaskEn k b).ticks = s.ticks := rfl
@[simp] theorem State.setTaskEn_pend (s : State) (k : Fin 4) (b : Bool) : (s.setTaskEn k b).pend = s.pend := rfl
@[simp] theorem State.setTaskEn_missed (s : State) (k : Fin 4) (b : Bool) : (s.setTaskEn k b).missed = s.missed := rfl
@[simp] theorem State.setTaskEn_ovrCnt (s : State) (k : Fin 4) (b : Bool) : (s.setTaskEn k b).ovrCnt = s.ovrCnt := rfl
@[simp] theorem State.setTaskEn_errCode (s : State) (k : Fin 4) (b : Bool) : (s.setTaskEn k b).errCode = s.errCode := rfl
@[simp] theorem State.setTaskEn_errInfo (s : State) (k : Fin 4) (b : Bool) : (s.setTaskEn k b).errInfo = s.errInfo := rfl
@[simp] theorem State.setTaskEn_flags (s : State) (k : Fin 4) (b : Bool) : (s.setTaskEn k b).flags = s.flags := rfl
@[simp] theorem State.setTaskEn_out (s : State) (k : Fin 4) (b : Bool) : (s.setTaskEn k b).out = s.out := rfl
@[simp] theorem State.setTaskEn_cnt (s : State) (k : Fin 4) (b : Bool) : (s.setTaskEn k b).cnt = s.cnt := rfl
@[simp] theorem State.setTaskEn_mask (s : State) (k : Fin 4) (b : Bool) : (s.setTaskEn k b).mask = s.mask := rfl
@[simp] theorem State.setTaskEn_lines (s : State) (k : Fin 4) (b : Bool) : (s.setTaskEn k b).lines = s.lines := rfl
@[simp] theorem State.setTaskEn_meas (s : State) (k : Fin 4) (b : Bool) : (s.setTaskEn k b).meas = s.meas := rfl
@[simp] theorem State.setTaskEn_seqs (s : State) (k : Fin 4) (b : Bool) : (s.setTaskEn k b).seqs = s.seqs := rfl
@[simp] theorem State.setTaskEn_requester (s : State) (k : Fin 4) (b : Bool) : (s.setTaskEn k b).requester = s.requester := rfl
@[simp] theorem State.setTaskEn_rsp (s : State) (k : Fin 4) (b : Bool) : (s.setTaskEn k b).rsp = s.rsp := rfl
@[simp] theorem State.setTaskEn_inputs (s : State) (k : Fin 4) (b : Bool) : (s.setTaskEn k b).inputs = s.inputs := rfl
@[simp] theorem State.setTaskEn_time (s : State) (k : Fin 4) (b : Bool) : (s.setTaskEn k b).time = s.time := rfl
@[simp] theorem State.setTaskEn_counter (s : State) (k : Fin 4) (b : Bool) (y : Fin 4) : (s.setTaskEn k b).counter y = s.counter y := rfl
@[simp] theorem State.setTaskEn_maskReg (s : State) (k : Fin 4) (b : Bool) (y : Fin 8) : (s.setTaskEn k b).maskReg y = s.maskReg y := rfl
@[simp] theorem State.setTaskEn_line (s : State) (k : Fin 4) (b : Bool) (y : Fin 4) : (s.setTaskEn k b).line y = s.line y := rfl
@[simp] theorem State.setTaskEn_measUnit (s : State) (k : Fin 4) (b : Bool) (y : Fin 2) : (s.setTaskEn k b).measUnit y = s.measUnit y := rfl
@[simp] theorem State.setTaskEn_seqUnit (s : State) (k : Fin 4) (b : Bool) (y : Fin 2) : (s.setTaskEn k b).seqUnit y = s.seqUnit y := rfl

@[simp] theorem State.setCursor_tickCtrl (s : State) (j : Fin 2) (e : Nat) : (s.setCursor j e).tickCtrl = s.tickCtrl := rfl
@[simp] theorem State.setCursor_tickReload (s : State) (j : Fin 2) (e : Nat) : (s.setCursor j e).tickReload = s.tickReload := rfl
@[simp] theorem State.setCursor_tickCurrent (s : State) (j : Fin 2) (e : Nat) : (s.setCursor j e).tickCurrent = s.tickCurrent := rfl
@[simp] theorem State.setCursor_ticks (s : State) (j : Fin 2) (e : Nat) : (s.setCursor j e).ticks = s.ticks := rfl
@[simp] theorem State.setCursor_pend (s : State) (j : Fin 2) (e : Nat) : (s.setCursor j e).pend = s.pend := rfl
@[simp] theorem State.setCursor_missed (s : State) (j : Fin 2) (e : Nat) : (s.setCursor j e).missed = s.missed := rfl
@[simp] theorem State.setCursor_ovrCnt (s : State) (j : Fin 2) (e : Nat) : (s.setCursor j e).ovrCnt = s.ovrCnt := rfl
@[simp] theorem State.setCursor_errCode (s : State) (j : Fin 2) (e : Nat) : (s.setCursor j e).errCode = s.errCode := rfl
@[simp] theorem State.setCursor_errInfo (s : State) (j : Fin 2) (e : Nat) : (s.setCursor j e).errInfo = s.errInfo := rfl
@[simp] theorem State.setCursor_flags (s : State) (j : Fin 2) (e : Nat) : (s.setCursor j e).flags = s.flags := rfl
@[simp] theorem State.setCursor_out (s : State) (j : Fin 2) (e : Nat) : (s.setCursor j e).out = s.out := rfl
@[simp] theorem State.setCursor_cnt (s : State) (j : Fin 2) (e : Nat) : (s.setCursor j e).cnt = s.cnt := rfl
@[simp] theorem State.setCursor_mask (s : State) (j : Fin 2) (e : Nat) : (s.setCursor j e).mask = s.mask := rfl
@[simp] theorem State.setCursor_tasks (s : State) (j : Fin 2) (e : Nat) : (s.setCursor j e).tasks = s.tasks := rfl
@[simp] theorem State.setCursor_lines (s : State) (j : Fin 2) (e : Nat) : (s.setCursor j e).lines = s.lines := rfl
@[simp] theorem State.setCursor_meas (s : State) (j : Fin 2) (e : Nat) : (s.setCursor j e).meas = s.meas := rfl
@[simp] theorem State.setCursor_requester (s : State) (j : Fin 2) (e : Nat) : (s.setCursor j e).requester = s.requester := rfl
@[simp] theorem State.setCursor_rsp (s : State) (j : Fin 2) (e : Nat) : (s.setCursor j e).rsp = s.rsp := rfl
@[simp] theorem State.setCursor_inputs (s : State) (j : Fin 2) (e : Nat) : (s.setCursor j e).inputs = s.inputs := rfl
@[simp] theorem State.setCursor_time (s : State) (j : Fin 2) (e : Nat) : (s.setCursor j e).time = s.time := rfl
@[simp] theorem State.setCursor_counter (s : State) (j : Fin 2) (e : Nat) (y : Fin 4) : (s.setCursor j e).counter y = s.counter y := rfl
@[simp] theorem State.setCursor_maskReg (s : State) (j : Fin 2) (e : Nat) (y : Fin 8) : (s.setCursor j e).maskReg y = s.maskReg y := rfl
@[simp] theorem State.setCursor_task (s : State) (j : Fin 2) (e : Nat) (y : Fin 4) : (s.setCursor j e).task y = s.task y := rfl
@[simp] theorem State.setCursor_line (s : State) (j : Fin 2) (e : Nat) (y : Fin 4) : (s.setCursor j e).line y = s.line y := rfl
@[simp] theorem State.setCursor_measUnit (s : State) (j : Fin 2) (e : Nat) (y : Fin 2) : (s.setCursor j e).measUnit y = s.measUnit y := rfl

theorem State.task_setCount (s : State) (k y : Fin 4) (v : Word) :
    (s.setCount k v).task y = if k = y then { s.task k with count := v } else s.task y :=
  State.task_setTask s k y _

theorem State.task_setTaskEn (s : State) (k y : Fin 4) (b : Bool) :
    (s.setTaskEn k b).task y =
      if k = y then { s.task k with ctrl := { (s.task k).ctrl with en := b } } else s.task y :=
  State.task_setTask s k y _

theorem State.seqUnit_setCursor (s : State) (j y : Fin 2) (e : Nat) :
    (s.setCursor j e).seqUnit y = if j = y then { s.seqUnit j with cur := BitVec.ofNat 4 e } else s.seqUnit y :=
  State.seqUnit_setSeqUnit s j y _

/-! The operand shells. -/

theorem counterSel_of_lt (sel : BitVec 3) (h : sel.toNat < 4) : counterSel sel = some ⟨sel.toNat, h⟩ := dif_pos h

theorem maskSel_eq (sel : BitVec 3) : maskSel sel = some ⟨sel.toNat, sel.isLt⟩ := dif_pos sel.isLt

theorem seqSel_of_lt (sel : BitVec 3) (h : sel.toNat < 2) : seqSel sel = some ⟨sel.toNat, h⟩ := dif_pos h

theorem taskSel_of_lt (sel : BitVec 3) (h : sel.toNat < 4) : taskSel sel = some ⟨sel.toNat, h⟩ := dif_pos h

theorem measSel_of_lt (sel : BitVec 3) (h : sel.toNat < 2) : measSel sel = some ⟨sel.toNat, h⟩ := dif_pos h

/-- Everything an action on a target can do: BADIDX and nothing else, or its effect on the target. -/
theorem onTarget_cases {α : Type} (i : Instr) (target : Option α) (s : State) (f : α → State) :
    (target = none ∧ onTarget i target s f = .next (raiseByAction .badIdx i s)) ∨
      ∃ a, target = some a ∧ onTarget i target s f = .next (f a) := by
  cases target
  · exact .inl ⟨rfl, rfl⟩
  · exact .inr ⟨_, rfl, rfl⟩

/-- Everything a SEQ.* action can do: BADIDX, or BADCFG, or its effect on a unit of legal length (R200). -/
theorem onSeqUnit_cases (i : Instr) (sel : BitVec 3) (s : State) (f : Fin 2 → State) :
    (seqSel sel = none ∧ onSeqUnit i sel s f = .next (raiseByAction .badIdx i s)) ∨
      ∃ j, seqSel sel = some j ∧
        ((lenLegal s j = false ∧ onSeqUnit i sel s f = .next (raiseByAction .badCfg i s)) ∨
          (lenLegal s j = true ∧ onSeqUnit i sel s f = .next (f j))) := by
  unfold onSeqUnit
  rcases onTarget_cases i (seqSel sel) s (fun j => if lenLegal s j then f j else raiseByAction .badCfg i s) with
    ⟨h, e⟩ | ⟨j, h, e⟩
  · exact .inl ⟨h, e⟩
  · refine .inr ⟨j, h, ?_⟩
    rw [e]
    cases hl : lenLegal s j
    · exact .inl ⟨rfl, by simp⟩
    · exact .inr ⟨rfl, by simp⟩

theorem lenLegal_iff (s : State) (j : Fin 2) :
    lenLegal s j = true ↔ 1 ≤ (s.seqUnit j).len.toNat ∧ (s.seqUnit j).len.toNat ≤ 16 := by
  simp [lenLegal]

end Sys2Proof.Machine
end

