-- ==== Sys2Proof/Laws/PerInstr.lean ====
section
/-! SUPPORT. The per-instruction family EncodingFields: every instruction's word has the fields R101 names, with RSV = 0,
one lemma per constructor of Instr. -/

namespace Sys2Proof

/-- The word of `i` holds its operation code, its SEL, RSV = 0 and its IMM in the bits R101 gives them. -/
def Laws.EncodingFields.Statement (i : Instr) : Prop :=
  opField (encode i) = i.opcode.number ∧ selField (encode i) = i.sel ∧ rsvField (encode i) = 0 ∧
    immField (encode i) = i.imm

theorem Laws.EncodingFields.nop : Laws.EncodingFields.Statement .nop :=
  ⟨opField_encode _, selField_encode _, rsvField_encode _, immField_encode _⟩

theorem Laws.EncodingFields.flagSet (imm : Half) : Laws.EncodingFields.Statement (.flagSet imm) :=
  ⟨opField_encode _, selField_encode _, rsvField_encode _, immField_encode _⟩

theorem Laws.EncodingFields.flagClr (imm : Half) : Laws.EncodingFields.Statement (.flagClr imm) :=
  ⟨opField_encode _, selField_encode _, rsvField_encode _, immField_encode _⟩

theorem Laws.EncodingFields.flagTgl (imm : Half) : Laws.EncodingFields.Statement (.flagTgl imm) :=
  ⟨opField_encode _, selField_encode _, rsvField_encode _, immField_encode _⟩

theorem Laws.EncodingFields.flagLd (imm : Half) : Laws.EncodingFields.Statement (.flagLd imm) :=
  ⟨opField_encode _, selField_encode _, rsvField_encode _, immField_encode _⟩

theorem Laws.EncodingFields.cntAdd (sel : BitVec 3) (imm : Half) : Laws.EncodingFields.Statement (.cntAdd sel imm) :=
  ⟨opField_encode _, selField_encode _, rsvField_encode _, immField_encode _⟩

theorem Laws.EncodingFields.cntSub (sel : BitVec 3) (imm : Half) : Laws.EncodingFields.Statement (.cntSub sel imm) :=
  ⟨opField_encode _, selField_encode _, rsvField_encode _, immField_encode _⟩

theorem Laws.EncodingFields.cntLd (sel : BitVec 3) (imm : Half) : Laws.EncodingFields.Statement (.cntLd sel imm) :=
  ⟨opField_encode _, selField_encode _, rsvField_encode _, immField_encode _⟩

theorem Laws.EncodingFields.cntIncw (sel : BitVec 3) (imm : Half) : Laws.EncodingFields.Statement (.cntIncw sel imm) :=
  ⟨opField_encode _, selField_encode _, rsvField_encode _, immField_encode _⟩

theorem Laws.EncodingFields.cntDecw (sel : BitVec 3) (imm : Half) : Laws.EncodingFields.Statement (.cntDecw sel imm) :=
  ⟨opField_encode _, selField_encode _, rsvField_encode _, immField_encode _⟩

theorem Laws.EncodingFields.outSet (sel : BitVec 3) : Laws.EncodingFields.Statement (.outSet sel) :=
  ⟨opField_encode _, selField_encode _, rsvField_encode _, immField_encode _⟩

theorem Laws.EncodingFields.outClr (sel : BitVec 3) : Laws.EncodingFields.Statement (.outClr sel) :=
  ⟨opField_encode _, selField_encode _, rsvField_encode _, immField_encode _⟩

theorem Laws.EncodingFields.outTgl (sel : BitVec 3) : Laws.EncodingFields.Statement (.outTgl sel) :=
  ⟨opField_encode _, selField_encode _, rsvField_encode _, immField_encode _⟩

theorem Laws.EncodingFields.seqAdv (sel : BitVec 3) : Laws.EncodingFields.Statement (.seqAdv sel) :=
  ⟨opField_encode _, selField_encode _, rsvField_encode _, immField_encode _⟩

theorem Laws.EncodingFields.seqStep (sel : BitVec 3) : Laws.EncodingFields.Statement (.seqStep sel) :=
  ⟨opField_encode _, selField_encode _, rsvField_encode _, immField_encode _⟩

theorem Laws.EncodingFields.seqOvr (sel : BitVec 3) : Laws.EncodingFields.Statement (.seqOvr sel) :=
  ⟨opField_encode _, selField_encode _, rsvField_encode _, immField_encode _⟩

theorem Laws.EncodingFields.seqShow (sel : BitVec 3) (imm : Half) : Laws.EncodingFields.Statement (.seqShow sel imm) :=
  ⟨opField_encode _, selField_encode _, rsvField_encode _, immField_encode _⟩

theorem Laws.EncodingFields.seqSetc (sel : BitVec 3) (imm : Half) : Laws.EncodingFields.Statement (.seqSetc sel imm) :=
  ⟨opField_encode _, selField_encode _, rsvField_encode _, immField_encode _⟩

theorem Laws.EncodingFields.taskRst (sel : BitVec 3) : Laws.EncodingFields.Statement (.taskRst sel) :=
  ⟨opField_encode _, selField_encode _, rsvField_encode _, immField_encode _⟩

theorem Laws.EncodingFields.taskSetc (sel : BitVec 3) (imm : Half) : Laws.EncodingFields.Statement (.taskSetc sel imm) :=
  ⟨opField_encode _, selField_encode _, rsvField_encode _, immField_encode _⟩

theorem Laws.EncodingFields.taskEn (sel : BitVec 3) : Laws.EncodingFields.Statement (.taskEn sel) :=
  ⟨opField_encode _, selField_encode _, rsvField_encode _, immField_encode _⟩

theorem Laws.EncodingFields.taskDis (sel : BitVec 3) : Laws.EncodingFields.Statement (.taskDis sel) :=
  ⟨opField_encode _, selField_encode _, rsvField_encode _, immField_encode _⟩

theorem Laws.EncodingFields.tickClr : Laws.EncodingFields.Statement .tickClr :=
  ⟨opField_encode _, selField_encode _, rsvField_encode _, immField_encode _⟩

theorem Laws.EncodingFields.measCap (sel : BitVec 3) : Laws.EncodingFields.Statement (.measCap sel) :=
  ⟨opField_encode _, selField_encode _, rsvField_encode _, immField_encode _⟩

theorem Laws.EncodingFields.measClr (sel : BitVec 3) : Laws.EncodingFields.Statement (.measClr sel) :=
  ⟨opField_encode _, selField_encode _, rsvField_encode _, immField_encode _⟩

end Sys2Proof
end

