-- ==== Sys2Proof/Laws/Step.lean ====
section
/-! SUPPORT. What each part of a step can do, said once: execution of a word, the tick counter, a task slot, a line, a
bus access, and the step itself. -/

namespace Sys2Proof.Machine

/-- Everything executing a word can do (R105, R106, R135). -/
theorem execWord_cases (w : Word) (src : Source) (idx : Fin 4) (s : State) :
    (∃ e, decode w = .error e ∧ execWord w src idx s = .next (raiseError (decodeCause e) src idx w s)) ∨
      ∃ i, decode w = .ok i ∧
        execWord w src idx s =
          andThen (exec i (s.setRequester { src := src, idx := idx })) fun t => .next (t.setRequester s.requester) := by
  unfold execWord asRequester
  cases decode w
  · exact .inl ⟨_, rfl, rfl⟩
  · exact .inr ⟨_, rfl, rfl⟩

/-- Everything the tick counter can do (R150). -/
theorem tickCount_cases (s : State) :
    (s.tickCtrl.en = false ∧ tickCount s = (false, s)) ∨
      (s.tickCtrl.en = true ∧ s.tickCurrent = 0 ∧ tickCount s = (false, s.setTickCurrent s.tickReload)) ∨
      (s.tickCtrl.en = true ∧ s.tickCurrent ≠ 0 ∧
        tickCount s = (s.tickCurrent - 1 == 0, s.setTickCurrent (s.tickCurrent - 1))) := by
  unfold tickCount
  by_cases h : s.tickCtrl.en = false
  · exact .inl ⟨h, if_pos h⟩
  · right
    rw [if_neg h]
    have he : s.tickCtrl.en = true := by simpa using h
    by_cases hc : s.tickCurrent = 0
    · exact .inl ⟨he, hc, if_pos hc⟩
    · exact .inr ⟨he, hc, if_neg hc⟩

/-- Everything a firing can do (R173, R174). -/
theorem fire_cases (k : Fin 4) (s : State) :
    (gateOpen s k = false ∧ fire k s = .next s) ∨
      (gateOpen s k = true ∧ fire k s = execWord (s.task k).action .task k (pendTask s k)) := by
  unfold fire
  cases h : gateOpen s k
  · exact .inl ⟨rfl, by simp⟩
  · exact .inr ⟨rfl, by simp⟩

/-- Everything the evaluation of a slot can do (R172, R179, R276). -/
theorem evalTask_cases (k : Fin 4) (s : State) :
    ((s.task k).ctrl.en = false ∧ evalTask k s = .next s) ∨
      ((s.task k).ctrl.en = true ∧ (s.task k).ctrl.mode = .track ∧ evalTask k s = evalTrack k s) ∨
      ((s.task k).ctrl.en = true ∧ (s.task k).ctrl.mode = .countdown ∧ evalTask k s = evalCountdown k s) := by
  unfold evalTask
  cases he : (s.task k).ctrl.en
  · exact .inl ⟨rfl, if_pos rfl⟩
  · right
    cases hm : (s.task k).ctrl.mode
    · exact .inr ⟨rfl, rfl, by simp⟩
    · exact .inl ⟨rfl, rfl, by simp⟩

/-- Everything a bus access can do (R75). -/
theorem busAccess_cases (req : Option BusRequest) (s : State) :
    (req = none ∧ busAccess req s = .next (s.setRsp { rdata := 0, error := false })) ∨
      ∃ q, req = some q ∧
        ((permitted q = false ∧
            busAccess req s =
              .next ((raiseError .access .bus 0 (q.addr.setWidth 32) s).setRsp { rdata := 0, error := true })) ∨
          (permitted q = true ∧ q.write = true ∧
            busAccess req s =
              andThen (windowWrite q.addr.toNat q.wdata s) fun t => .next (t.setRsp { rdata := 0, error := false })) ∨
          (permitted q = true ∧ q.write = false ∧
            busAccess req s = .next (s.setRsp { rdata := windowRead s q.addr.toNat, error := false }))) := by
  cases req with
  | none => exact .inl ⟨rfl, rfl⟩
  | some q =>
    refine .inr ⟨q, rfl, ?_⟩
    unfold busAccess
    cases hp : permitted q
    · exact .inl ⟨rfl, by simp [hp]⟩
    · right
      cases hw : q.write
      · exact .inr ⟨rfl, rfl, by simp [hp, hw]⟩
      · exact .inl ⟨rfl, rfl, by simp [hp, hw]⟩

/-- Everything the detection of a line can do (R232, R233, R234, R239). -/
theorem detect_cases (l : Line) (startD : Half) (old2 new2 tick : Bool) :
    (l.ctrl.en = false ∧ detect l startD old2 new2 tick = (.idle, false)) ∨
      (l.ctrl.en = true ∧ levelMode l.ctrl.sense = true ∧
        detect l startD old2 new2 tick = (.idle, new2 == activeLevel l.ctrl.sense)) ∨
      (l.ctrl.en = true ∧ levelMode l.ctrl.sense = false ∧ (l.debounce = 0 ∧ startD = 0) ∧
        detect l startD old2 new2 tick = (.idle, rawEvent l.ctrl.sense old2 new2)) ∨
      (l.ctrl.en = true ∧ levelMode l.ctrl.sense = false ∧ ¬(l.debounce = 0 ∧ startD = 0) ∧
        ∃ r, r = settle l.db l.debounce (rawEvent l.ctrl.sense old2 new2) (new2 == activeLevel l.ctrl.sense) tick ∧
          detect l startD old2 new2 tick = (if l.debounce = 0 then .idle else r.1, r.2)) := by
  unfold detect
  cases he : l.ctrl.en
  · exact .inl ⟨rfl, if_pos rfl⟩
  · right
    cases hl : levelMode l.ctrl.sense
    · right
      by_cases hd : l.debounce = 0 ∧ startD = 0
      · exact .inl ⟨rfl, rfl, hd, by simp [hd]⟩
      · exact .inr ⟨rfl, rfl, hd, _, rfl, by rw [if_neg (by simp), if_neg (by simp), if_neg hd]⟩
    · exact .inl ⟨rfl, rfl, by simp⟩

/-- Everything the sampling of a line can do (R230 to R240). -/
theorem sampleLine_cases (i : Fin 4) (pins : BitVec 4) (tick : Bool) (start : Vector Line 4) (s : State) :
    ∃ l event, l = sampledLine (s.line i) start[i].debounce (pins.getLsbD i.val) tick ∧
      event = (detect (s.line i) start[i].debounce (s.line i).sync2 (s.line i).sync1 tick).2 ∧
      ((event = false ∧ sampleLine i pins tick start s = (false, s.setLine i l)) ∨
        (event = true ∧
          sampleLine i pins tick start s = (runsActions i (s.setLine i l), recordEvent i (s.setLine i l)))) := by
  refine ⟨_, _, rfl, rfl, ?_⟩
  unfold sampleLine
  cases (detect (s.line i) start[i].debounce (s.line i).sync2 (s.line i).sync1 tick).2
  · exact .inl ⟨rfl, by simp⟩
  · exact .inr ⟨rfl, by simp⟩

/-- Everything phases 2 to 4 can do (R131): with a tick its consequences come before the lines. -/
theorem afterBus_cases (pins : BitVec 4) (start : Vector Line 4) (s : State) :
    ((tickCount s).1 = false ∧ afterBus pins start s = linePhase pins false start (tickCount s).2) ∨
      ((tickCount s).1 = true ∧
        afterBus pins start s = andThen (tickPhase (tickCount s).2) (linePhase pins true start)) := by
  unfold afterBus
  cases h : (tickCount s).1
  · exact .inl ⟨rfl, by simp [h, andThen]⟩
  · exact .inr ⟨rfl, by simp [h]⟩

/-- Everything a step can do: it resets, or it runs the bus access and then the other phases (R131, R132). -/
theorem step_cases (s : State) :
    (s.nextInput.rst = true ∧ step s = .next s.takeInput.toReset) ∨
      (s.nextInput.rst = false ∧
        step s = andThen (busAccess s.nextInput.req s.takeInput) (afterBus s.nextInput.pins s.lines)) := by
  unfold step blockStep
  cases h : s.nextInput.rst
  · exact .inr ⟨rfl, by simp [State.takeInput]⟩
  · exact .inl ⟨rfl, by simp⟩

end Sys2Proof.Machine
end

