-- ==== Sys2Proof/Tests/Slice0.lean ====
section
/-! SUPPORT. Tests on fixed values: ill-formed terms, words written from the encoding, one action or one step per
theorem with the expected values of 95_test_vectors.md, and a witness for the hypotheses of every statement. -/

namespace Sys2Proof.Machine

/-- The state whose next step sees these pins and this request, without a reset. -/
def State.fed (s : State) (pins : BitVec 4) (req : Option BusRequest) : State :=
  { s with inputs := [{ rst := false, pins := pins, req := req }] }

/-- The tick source one count before a tick, with period 4 and dispatch on. -/
def State.ticking (s : State) : State :=
  { s with tickCtrl := { en := true, tickInt := false, dispatch := true }, tickReload := 3, tickCurrent := 1 }

end Sys2Proof.Machine

namespace Sys2Proof.Tests

open Sys2Proof.Machine

/-- The result is a next state with the property. -/
def after (r : Result) (p : State → Bool) : Bool :=
  match r with
  | .next t => p t
  | .fault _ => false
  | .refused _ => false

/-- One action word from CMD. -/
def run (w : Word) (s : State) : Result := execWord w .cmd 0 s

/-- Sequence unit 0 with the lamp table 1, 2, 4, 8 of the SEQ vectors, owning OUT bits 3:0. -/
def lamps (len : BitVec 5) (cur : BitVec 4) (out : Word) : State :=
  ((State.reset.setMaskReg 0 0xF).setOut out).setSeqUnit 0
    { len := len, msel := 0, cur := cur, table := #v[1, 2, 4, 8, 0, 0, 0, 0, 0, 0, 0, 0, 0, 0, 0, 0] }

/-- Slot k with an action, CTRL, RELOAD and COUNT; every other slot as after reset. -/
def slotDoing (action : Word) (k : Fin 4) (ctrl reload count : Word) : State :=
  State.reset.setTask k { ctrl := TaskCtrl.ofWord ctrl, reload := reload, count := count, action := action }

/-- Slot k with the body NOP. -/
def slot (k : Fin 4) (ctrl reload count : Word) : State := slotDoing 0 k ctrl reload count

/-- Measurement unit u with PERIOD 42. -/
def unit (u : Fin 2) (acc min max : Word) : State :=
  State.reset.setMeasUnit u { acc := acc, last := 0, period := 42, min := min, max := max }

/-- Line 3 with its registers and hidden state. -/
def wired (ctrl : Word) (d : Half) (db : Debounce) (sync1 sync2 : Bool) : State :=
  State.reset.setLine 3
    { Line.reset with ctrl := LineCtrl.ofWord ctrl, debounce := d, db := db, sync1 := sync1, sync2 := sync2 }

/-- A line of the given priority. -/
def urgent (p : BitVec 2) : Line := { Line.reset with ctrl := { Line.reset.ctrl with prio := p } }

/-- A read of the register window. -/
def aRead (a : BitVec 12) (size : AccessSize) : BusRequest := { write := false, addr := a, size := size, wdata := 0 }

/-- A bus write of an action word to CMD. -/
def cmdWrite (w : Word) : BusRequest := { write := true, addr := 0x028, size := .word, wdata := w }

/-- A line with a falling edge in the next step, its ACT0 and its priority. -/
def firing (act : Word) (p : BitVec 2) : Line :=
  { Line.reset with ctrl := { LineCtrl.ofWord 0x11 with prio := p }, act0 := act, sync1 := false }

/-- The bus write of 0 to LINE3.DEBOUNCE. -/
def zeroDebounce : BusRequest := { write := true, addr := 0x264, size := .word, wdata := 0 }

/-- The bus write that clears PEND.TICK. -/
def clearTick : BusRequest := { write := true, addr := 0x014, size := .word, wdata := 1 }

/-! Ill-formed terms: each range check of WellFormed refuses one (R103). -/

theorem test_wf_refuses_counter :
    WellFormed (.cntAdd 4 1) = false ∧ WellFormed (.cntSub 7 0) = false ∧ WellFormed (.cntLd 4 0) = false ∧
        WellFormed (.cntIncw 5 1) = false ∧ WellFormed (.cntDecw 4 1) = false := by decide

theorem test_wf_refuses_seq :
    WellFormed (.seqAdv 2) = false ∧ WellFormed (.seqStep 7) = false ∧ WellFormed (.seqOvr 2) = false ∧
        WellFormed (.seqShow 2 0) = false ∧ WellFormed (.seqSetc 3 0) = false := by decide

theorem test_wf_refuses_task :
    WellFormed (.taskRst 4) = false ∧ WellFormed (.taskSetc 4 0) = false ∧ WellFormed (.taskEn 7) = false ∧
        WellFormed (.taskDis 4) = false := by decide

theorem test_wf_refuses_meas :
    WellFormed (.measCap 2) = false ∧ WellFormed (.measClr 7) = false := by decide

theorem test_wf_accepts_bounds :
    WellFormed (.cntAdd 3 0xFFFF) = true ∧ WellFormed (.outSet 7) = true ∧ WellFormed (.seqShow 1 0) = true ∧
      WellFormed (.taskDis 3) = true ∧ WellFormed (.measClr 1) = true ∧
        WellFormed (.flagLd 0xFFFF) = true := by decide

/-! Decoding: words written from the layout of R101 (OP·2^27 + SEL·2^24 + IMM) and the opcode map of R104. -/

theorem test_decode_flag :
    decode 0x00000000 = .ok (.nop) ∧
      decode 0x08008001 = .ok (.flagSet 0x8001) ∧
      decode 0x1000FFFF = .ok (.flagClr 0xFFFF) ∧
      decode 0x18000001 = .ok (.flagTgl 1) ∧
      decode 0x200000A5 = .ok (.flagLd 0xA5) := ⟨rfl, rfl, rfl, rfl, rfl⟩

theorem test_decode_cnt :
    decode 0x2B00FFFF = .ok (.cntAdd 3 0xFFFF) ∧
      decode 0x31000005 = .ok (.cntSub 1 5) ∧
      decode 0x3A001234 = .ok (.cntLd 2 0x1234) ∧
      decode 0x4000000A = .ok (.cntIncw 0 10) ∧
      decode 0x4B000000 = .ok (.cntDecw 3 0) := ⟨rfl, rfl, rfl, rfl, rfl⟩

theorem test_decode_out :
    decode 0x57000000 = .ok (.outSet 7) ∧
      decode 0x59000000 = .ok (.outClr 1) ∧
      decode 0x62000000 = .ok (.outTgl 2) := ⟨rfl, rfl, rfl⟩

theorem test_decode_seq :
    decode 0x68000000 = .ok (.seqAdv 0) ∧
      decode 0x71000000 = .ok (.seqStep 1) ∧
      decode 0x78000000 = .ok (.seqOvr 0) ∧
      decode 0x8100000B = .ok (.seqShow 1 11) ∧
      decode 0x8900000D = .ok (.seqSetc 1 13) := ⟨rfl, rfl, rfl, rfl, rfl⟩

theorem test_decode_task :
    decode 0x93000000 = .ok (.taskRst 3) ∧
      decode 0x99000009 = .ok (.taskSetc 1 9) ∧
      decode 0xA2000000 = .ok (.taskEn 2) ∧
      decode 0xAA000000 = .ok (.taskDis 2) := ⟨rfl, rfl, rfl, rfl⟩

theorem test_decode_tick_meas :
    decode 0xB0000000 = .ok (.tickClr) ∧
      decode 0xB9000000 = .ok (.measCap 1) ∧
      decode 0xC0000000 = .ok (.measClr 0) := ⟨rfl, rfl, rfl⟩

/-- DEC-1 to DEC-13 of 95_test_vectors.md. -/
theorem test_decode_errors :
    decode 0xFF000000 = .error .badOp ∧
      decode 0xC8000000 = .error .badOp ∧
      decode 0x2F010000 = .error .badFmt ∧
      decode 0x00000001 = .error .badFmt ∧
      decode 0x09000001 = .error .badFmt ∧
      decode 0x60000001 = .error .badFmt ∧
      decode 0x2C010000 = .error .badFmt ∧
      decode 0x2C000000 = .error .badIdx ∧
      decode 0x6A000000 = .error .badIdx ∧
      decode 0x94000000 = .error .badIdx ∧
      decode 0xBA000000 = .error .badIdx := ⟨rfl, rfl, rfl, rfl, rfl, rfl, rfl, rfl, rfl, rfl, rfl⟩

theorem test_table_word :
    decodeTableWord 32 0x8100000B = some (.seqShow 1 11) ∧ decodeTableWord 32 0xB1000000 = none := ⟨rfl, rfl⟩

/-! One action from CMD on ResetState with a few fields changed, after the Exec vectors of 95_test_vectors.md. -/

/-- DEC-14. -/
theorem test_nop :
    after (run 0x00000000 (State.reset)) (fun t => t == State.reset) = true := by decide

/-- FLAG-1. -/
theorem test_flag_set :
    after (run 0x08000010 (State.reset.setFlags 1)) (fun t => t.flags == 0x11) = true := by decide

/-- FLAG-2. -/
theorem test_flag_clr :
    after (run 0x10000001 (State.reset.setFlags 0x11)) (fun t => t.flags == 0x10) = true := by decide

/-- FLAG-4. -/
theorem test_flag_tgl :
    after (run 0x18008001 (State.reset.setFlags 0x8000)) (fun t => t.flags == 1) = true := by decide

/-- FLAG-5. -/
theorem test_flag_ld :
    after (run 0x200000A5 (State.reset.setFlags 0xFFFF)) (fun t => t.flags == 0xA5) = true := by decide

/-- FLAG-8. -/
theorem test_flag_bad_sel :
    after (run 0x19000001 (State.reset))
        (fun t => t.flags == 0 && regRead .errCode t == 2 && t.errInfo == 0x19000001) = true := by decide

/-- CNT-1. -/
theorem test_cnt_add_wraps :
    after (run 0x28000003 (State.reset.setCounter 0 0xFFFFFFFE)) (fun t => t.counter 0 == 1) = true := by decide

/-- CNT-14. -/
theorem test_cnt_add_zero_extends :
    after (run 0x2800FFFF (State.reset.setCounter 0 1)) (fun t => t.counter 0 == 0x10000) = true := by decide

/-- CNT-2. -/
theorem test_cnt_sub_wraps :
    after (run 0x31000005 (State.reset.setCounter 1 2))
        (fun t => t.counter 1 == 0xFFFFFFFD && t.counter 0 == 0) = true := by decide

/-- CNT-3. -/
theorem test_cnt_ld :
    after (run 0x3A001234 (State.reset.setCounter 2 0xDEADBEEF)) (fun t => t.counter 2 == 0x1234) = true := by decide

/-- CNT-6. -/
theorem test_cnt_incw :
    after (run 0x4000000A (State.reset.setCounter 0 25)) (fun t => t.counter 0 == 6) = true := by decide

/-- CNT-10. -/
theorem test_cnt_incw_zero :
    after (run 0x43000000 (State.reset.setCounter 3 0xFFFFFFFF)) (fun t => t.counter 3 == 0) = true := by decide

/-- CNT-9. -/
theorem test_cnt_decw :
    after (run 0x4800000A (State.reset.setCounter 0 25)) (fun t => t.counter 0 == 4) = true := by decide

/-- CNT-11. -/
theorem test_cnt_decw_zero :
    after (run 0x4B000000 (State.reset)) (fun t => t.counter 3 == 0xFFFFFFFF) = true := by decide

/-- CNT-15, for CNT.LD. -/
theorem test_cnt_bad_sel :
    after (run 0x3C000001 (State.reset.setCounter 0 5))
        (fun t => t.counter 0 == 5 && regRead .errCode t == 3) = true := by decide

/-- OUT-1. -/
theorem test_out_set :
    after (run 0x51000000 ((State.reset.setMaskReg 1 0xF).setOut 0xF0)) (fun t => t.out == 0xFF) = true := by decide

/-- OUT-2. -/
theorem test_out_clr :
    after (run 0x59000000 ((State.reset.setMaskReg 1 0xF).setOut 0xFF)) (fun t => t.out == 0xF0) = true := by decide

/-- OUT-6. -/
theorem test_out_tgl :
    after (run 0x63000000 ((State.reset.setMaskReg 3 0xFF00).setOut 0xA5A5A5A5))
        (fun t => t.out == 0xA5A55AA5) = true := by decide

/-- SEQ-1. -/
theorem test_seq_adv :
    after (run 0x68000000 (lamps 4 3 8)) (fun t => t.out == 1 && (t.seqUnit 0).cur == 0) = true := by decide

/-- SEQ-9. -/
theorem test_seq_adv_reduces :
    after (run 0x68000000 (lamps 4 9 0)) (fun t => t.out == 4 && (t.seqUnit 0).cur == 2) = true := by decide

/-- SEQ-2. -/
theorem test_seq_step :
    after (run 0x70000000 (lamps 4 3 1)) (fun t => t.out == 8 && (t.seqUnit 0).cur == 0) = true := by decide

/-- SEQ-8. -/
theorem test_seq_step_bad_len :
    after (run 0x70000000 (lamps 17 0 5)) (fun t => t.out == 5 && regRead .errCode t == 4) = true := by decide

/-- SEQ-3. -/
theorem test_seq_ovr :
    after (run 0x78000000 (lamps 4 1 0)) (fun t => t.out == 8 && (t.seqUnit 0).cur == 0) = true := by decide

/-- SEQ-4. -/
theorem test_seq_show :
    after (run 0x80000006 (lamps 4 1 0)) (fun t => t.out == 4 && (t.seqUnit 0).cur == 1) = true := by decide

/-- SEQ-6, on unit 0. -/
theorem test_seq_setc :
    after (run 0x8800000D (lamps 12 5 3)) (fun t => t.out == 3 && (t.seqUnit 0).cur == 1) = true := by decide

/-- TASK-A1. -/
theorem test_task_rst_countdown :
    after (run 0x90000000 (slot 0 0 4 1)) (fun t => (t.task 0).count == 4) = true := by decide

/-- TASK-A2. -/
theorem test_task_rst_track :
    after (run 0x90000000 (slot 0 3 4 7)) (fun t => (t.task 0).count == 0) = true := by decide

/-- TASK-A3. -/
theorem test_task_setc_clamps :
    after (run 0x99000009 (slot 1 0 4 0)) (fun t => (t.task 1).count == 4) = true := by decide

/-- TASK-A5. -/
theorem test_task_setc_track :
    after (run 0x99000009 (slot 1 2 4 0)) (fun t => (t.task 1).count == 9) = true := by decide

/-- TASK-A6. -/
theorem test_task_en :
    after (run 0xA2000000 (slot 2 0 0 3))
        (fun t => regRead (.taskCtrl 2) t == 1 && (t.task 2).count == 3) = true := by decide

/-- TASK-A7. -/
theorem test_task_dis :
    after (run 0xAA000000 (slot 2 0x1F 0 3))
        (fun t => regRead (.taskCtrl 2) t == 0x1E && (t.task 2).count == 3) = true := by decide

/-- R158. -/
theorem test_tick_clr :
    after (run 0xB0000000 (State.reset.setTickCurrent 7))
        (fun t => t.tickCurrent == 0 && t.pend.tick == false) = true := by decide

/-- MEAS-1. -/
theorem test_meas_cap_raises :
    after (run 0xB8000000 (unit 0 50 100 1000))
        (fun t => t.measUnit 0 == { acc := 0, last := 50, period := 100, min := 100, max := 1000 }) = true :=
        by decide

/-- MEAS-5b. -/
theorem test_meas_cap_min_over_max :
    after (run 0xB8000000 (unit 0 150 200 100)) (fun t => (t.measUnit 0).period == 200) = true := by decide

/-- MEAS-4. -/
theorem test_meas_clr :
    after (run 0xC0000000 (unit 0 737 0 0))
        (fun t => (t.measUnit 0).acc == 0 && (t.measUnit 0).period == 42) = true := by decide

/-- ERR-1. -/
theorem test_error_keeps_first :
    after (run 0xFF000000 (raiseError .badIdx .task 0 0 State.reset))
        (fun t => regRead .errCode t == 0x10013 && t.errInfo == 0) = true := by decide

/-! One step of the block. -/

/-- ERR-4, step 1. -/
theorem test_step_access :
    after (step (State.reset.fed 0xF (some { write := true, addr := 0x030, size := .byte, wdata := 0xFF })))
      (fun t => t.rsp.error && t.out == 0 && regRead .errCode t == 0x46 && t.errInfo == 0x30) = true := by decide

/-- BUS-1. -/
theorem test_step_read_id :
    after (step (State.reset.fed 0xF (some { write := false, addr := 0x000, size := .word, wdata := 0 })))
      (fun t => !t.rsp.error && t.rsp.rdata == 0x50545301) = true := by decide

/-- LINE-1, step 6. -/
theorem test_step_falling_edge :
    after (step ((State.reset.setLine 0 { Line.reset with ctrl := LineCtrl.ofWord 0x11, act0 := 0x28000001, sync1 := false }).fed 0xE none))
      (fun t => regRead .pend t == 0x0100 && t.counter 0 == 1 && regRead .pins t == 0xE) = true := by decide

/-- LINE-12, the step of the event. -/
theorem test_step_both_actions :
    after (step ((State.reset.setLine 1 { Line.reset with ctrl := LineCtrl.ofWord 0x11, act0 := 0xFFFF, act1 := 0x08000004, sync1 := false }).fed 0xD none))
      (fun t => regRead .errCode t == 0x0122 && t.errInfo == 0xFFFF && t.flags == 4 && regRead .pend t == 0x8200) = true := by decide

/-- P1, step 26 (with an empty PEND before). -/
theorem test_step_task_fires :
    after (step (((slotDoing 0x60000000 0 1 4 0).setMaskReg 0 1).ticking.fed 0xF none))
      (fun t => t.out == 1 && (t.task 0).count == 4 && t.ticks == 1 && regRead .pend t == 0x0011) = true := by decide

/-- LINE-7, step 13. -/
theorem test_step_debounce_confirms :
    after (step ((State.reset.setLine 0 { Line.reset with ctrl := LineCtrl.ofWord 0x11, debounce := 2, act0 := 0x28000001, db := .settle 1, sync1 := false, sync2 := false }).ticking.fed 0xE none))
      (fun t => (t.line 0).db == .hold && t.counter 0 == 1 && t.pend.line == 1) = true := by decide

/-- R239: in the step that writes DEBOUNCE = 0 a raw edge is no event, and a confirmation due is one. -/
theorem test_debounce_zero_write :
    after (step ((wired 0x11 2 .idle false true).fed 0x7 (some zeroDebounce)))
        (fun t => t.pend.line == 0 && (t.line 3).db == .idle) = true ∧
      after (step ((wired 0x11 2 (.settle 1) false false).ticking.fed 0x7 (some zeroDebounce)))
        (fun t => t.pend.line == 8 && (t.line 3).db == .idle) = true := by decide

/-- R243: lines 1, 0 with equal PRIO, lines 0, 1 when line 1 is more urgent. -/
theorem test_line_actions_in_order :
    after (step ((((State.reset.setCounter 0 5).setLine 0 (firing 0x28000003 0)).setLine 1 (firing 0x38000007 0)).fed 0xC none)) (fun t => t.counter 0 == 10) = true ∧
      after (step ((((State.reset.setCounter 0 5).setLine 0 (firing 0x28000003 1)).setLine 1 (firing 0x38000007 0)).fed 0xC none)) (fun t => t.counter 0 == 7) = true := by decide

/-- RST-2. -/
theorem test_step_reset :
    after (step { State.reset.setOut 0xAB with inputs := [{ rst := true, pins := 0, req := some (cmdWrite 0xFF000000) }] })
      (fun t => { t with time := 0 } == State.reset) = true := by decide

/-- LINE-6f. -/
theorem test_line_order :
    lineOrder ((((State.reset.setLine 0 (urgent 2)).setLine 1 (urgent 0)).setLine 2 (urgent 2)).setLine 3 (urgent 1)) = [2, 0, 3, 1] := by decide

/-- MEAS-10. -/
theorem test_acc_saturates :
    (accTick 0 (unit 0 0xFFFFFFFF 0 0)).measUnit 0 = (unit 0 0xFFFFFFFF 0 0).measUnit 0 := by decide

/-! Witnesses: a concrete state and operands that meet the hypotheses of a statement, per clause where it has several. -/

theorem witness_DecodeOfEncode :
    WellFormed (.taskSetc 3 0xFFFF) = true := by decide

theorem witness_EncodeOfDecode :
    decode 0x9B00FFFF = .ok (.taskSetc 3 0xFFFF) := rfl

theorem witness_DecodeMatchesTableRows :
    (∃ i, decode 0x9B00FFFF = .ok i ∧ i.opcode = .taskSetc) ∧
        (0x94000000 : Word) &&& Opcode.taskRst.maskWord = 0x90000000 := ⟨⟨.taskSetc 3 0xFFFF, rfl, rfl⟩, by decide⟩

/-- A word at the edge of every case of R105. -/
theorem witness_DecodeChecksInOrder :
    decode 0xC8FF0000 = .error .badOp ∧ decode 0xC0010000 = .error .badFmt ∧ decode 0xB1000000 = .error .badFmt ∧
      decode 0x60000001 = .error .badFmt ∧ decode 0x4C000000 = .error .badIdx ∧
        decode 0x57000000 = .ok (.outSet 7) := ⟨rfl, rfl, rfl, rfl, rfl, rfl⟩

theorem witness_NopAndTickClrEffects :
    opField 0x00000001 = 0x00 ∧ (0x00000001 : Word) ≠ 0x00000000 ∧ opField 0xB1000000 = 0x16 ∧
        (0xB1000000 : Word) ≠ 0xB0000000 := by decide

theorem witness_FlagActionEffects :
    opField 0x09000000 = 0x01 ∧ selField 0x09000000 ≠ 0 ∧ opField 0x10800000 = 0x02 ∧ rsvField 0x10800000 ≠ 0 ∧
      opField 0x1F000000 = 0x03 ∧ selField 0x1F000000 ≠ 0 ∧ opField 0x20010000 = 0x04 ∧
        rsvField 0x20010000 ≠ 0 := by decide

theorem witness_CounterArithmeticEffects :
    (3 : BitVec 3).toNat < 4 ∧ opField 0x28010000 = 0x05 ∧ rsvField 0x28010000 ≠ 0 ∧
      opField 0x34000000 = 0x06 ∧ rsvField 0x34000000 = 0 ∧ 4 ≤ (selField 0x34000000).toNat ∧
      opField 0x3C000000 = 0x07 ∧ rsvField 0x3C000000 = 0 ∧ 4 ≤ (selField 0x3C000000).toNat := by decide

/-- Both moduli of R298: w = 0 and w above the value by one. -/
theorem witness_CounterWrapEffects :
    (3 : BitVec 3).toNat < 4 ∧ (State.reset.setCounter 3 9).cnt[3].toNat < (10 : Half).toNat ∧ (0 : Half).toNat = 0 ∧
      opField 0x44000000 = 0x08 ∧ rsvField 0x44000000 = 0 ∧ 4 ≤ (selField 0x44000000).toNat ∧
      opField 0x48800000 = 0x09 ∧ rsvField 0x48800000 ≠ 0 := by decide

theorem witness_OutputActionEffects :
    (7 : BitVec 3).toNat < 8 ∧ opField 0x50000001 = 0x0A ∧ immField 0x50000001 ≠ 0 ∧ opField 0x58010000 = 0x0B ∧
      rsvField 0x58010000 ≠ 0 ∧ opField 0x67008000 = 0x0C ∧ immField 0x67008000 ≠ 0 := by decide

/-- LEN at both ends of 1..16. -/
theorem witness_SequenceActionEffects :
    (1 : BitVec 3).toNat < 2 ∧ 1 ≤ ((lamps 1 15 0).seqUnit 0).len.toNat ∧ ((lamps 16 15 0).seqUnit 0).len.toNat ≤ 16 ∧
      opField 0x6A000000 = 0x0D ∧ immField 0x6A000000 = 0 ∧ rsvField 0x6A000000 = 0 ∧
        2 ≤ (selField 0x6A000000).toNat := by decide

theorem witness_SequenceActionsNeedLegalLength :
    decode 0x68000000 = .ok (.seqAdv 0) ∧ (Instr.seqAdv 0).opcode.kind = .seq ∧
        (Instr.seqAdv 0).sel.toNat = (0 : Fin 2).val ∧
      ((lamps 0 0 0).seqUnit 0).len.toNat = 0 ∧
        16 < ((lamps 17 0 0).seqUnit 0).len.toNat := ⟨rfl, rfl, rfl, by decide, by decide⟩

theorem witness_TaskCountActionEffects :
    (3 : BitVec 3).toNat < 4 ∧ (slot 3 1 4 1).tasks[3].ctrl.mode = .countdown ∧
        (slot 3 3 4 1).tasks[3].ctrl.mode = .track ∧
      opField 0x94000000 = 0x12 ∧ immField 0x94000000 = 0 ∧ rsvField 0x94000000 = 0 ∧
        4 ≤ (selField 0x94000000).toNat := by decide

theorem witness_TaskEnableActionEffects :
    (3 : BitVec 3).toNat < 4 ∧ opField 0xA0000001 = 0x14 ∧ immField 0xA0000001 ≠ 0 ∧
      opField 0xAC000000 = 0x15 ∧ immField 0xAC000000 = 0 ∧ rsvField 0xAC000000 = 0 ∧
        4 ≤ (selField 0xAC000000).toNat := by decide

theorem witness_MeasureActionEffects :
    (1 : BitVec 3).toNat < 2 ∧ opField 0xBA000000 = 0x17 ∧ immField 0xBA000000 = 0 ∧ rsvField 0xBA000000 = 0 ∧
      2 ≤ (selField 0xBA000000).toNat ∧ opField 0xC0000001 = 0x18 ∧ immField 0xC0000001 ≠ 0 := by decide

theorem witness_OutOfRangeTargetIsBadIdx :
    WellFormed (.cntAdd 4 1) = false := by decide

theorem witness_OutputActionsKeepForeignBits :
    (Instr.outSet 7).opcode.kind = .mask ∧ after (exec (.outSet 7) State.reset) (fun _ => true) = true ∧
      (Instr.seqAdv 1).opcode.kind = .seq ∧ (1 : Fin 2).val = (Instr.seqAdv 1).sel.toNat ∧
      after (exec (.seqAdv 1) State.reset) (fun _ => true) = true := by decide

theorem witness_SharedStateChangesOnlyByItsActions :
    after (exec (.taskRst 0) State.reset) (fun _ => true) = true ∧
        Opcode.taskRst ∉ [Opcode.flagSet, .flagClr, .flagTgl, .flagLd] ∧
      Opcode.taskRst ∉ [Opcode.cntAdd, .cntSub, .cntLd, .cntIncw, .cntDecw] ∧
      Opcode.taskRst ∉ [Opcode.outSet, .outClr, .outTgl, .seqAdv, .seqStep, .seqOvr, .seqShow] := by decide

theorem witness_ActionsKeepConfigurationAndPending :
    after (exec (.seqAdv 0) (raiseError .badOp .cmd 0 0 State.reset)) (fun _ => true) = true ∧
      (raiseError .badOp .cmd 0 0 State.reset).pend.err = true := by decide

theorem witness_RequesterShowsOnlyInErrorCode :
    after (execWord 0x68000000 .cmd 0 State.reset) (fun _ => true) = true ∧
      after (execWord 0x68000000 .line1 3 State.reset) (fun _ => true) = true := by decide

theorem witness_FirstErrorIsCaptured :
    State.reset.pend.err = false ∧ (raiseError .badOp .cmd 0 0 State.reset).pend.err = true ∧
      decode 0xC8000000 = .error .badOp ∧ decode 0x00010000 = .error .badFmt ∧
        decode 0x2C000000 = .error .badIdx := ⟨rfl, rfl, rfl, rfl, rfl⟩

theorem witness_RegisterMapIsOneToOne :
    regAt 0x57C = some (.seqTable 1 15) ∧ regAt 0x000 = some .id := by decide

theorem witness_UnmappedAndReadOnlyIgnoreWrites :
    ∀ r : Reg, r.offset ≠ 0xFFC := by intro r; cases r <;> simp [Reg.offset] <;> omega

theorem witness_IllegalAccessIsRefused :
    (aRead 0x031 .word).addr.toNat % 4 ≠ 0 ∧ (aRead 0x030 .byte).size ≠ .word ∧
        (aRead 0x032 .half).size ≠ .word := by decide

theorem witness_ReadsChangeNothing :
    (aRead 0xFFC .word).size = .word ∧ (aRead 0xFFC .word).addr.toNat % 4 = 0 ∧
        (aRead 0xFFC .word).write = false := by decide

/-- A register of every group takes the data; two of the plain ones; a permitted write. -/
theorem witness_ReadAfterWriteGivesFields :
    [Reg.ticks, .seqTable 1 15, .tickReload, .flags, .lineDebounce 3, .tickCtrl, .taskCtrl 3, .lineCtrl 3, .seqCtrl 1,
        .seqCur 1].all (fun r => after (regWrite r 0xFFFFFFFF State.reset) (fun t => regRead r t != 0)) = true ∧
      PlainWrite .out ∧ PlainWrite (.seqTable 1 15) ∧ (cmdWrite 0).size = .word ∧ (cmdWrite 0).addr.toNat % 4 = 0 ∧
        (cmdWrite 0).write = true := ⟨by decide, by simp [PlainWrite], by simp [PlainWrite], rfl, rfl, rfl⟩

theorem witness_PendingIsWriteOneToClear :
    (0x8000 : Word).getLsbD 15 = true ∧ (0x7FFF : Word).getLsbD 15 = false := by decide

theorem witness_BadReloadIsReported :
    (1 : Word).getLsbD 0 = true ∧ State.reset.tickReload = 0 ∧
        (writeTickCtrl 1 (State.reset.setTickReload 3)).tickCtrl.en = true ∧
      (0x01000000 : Word).toNat % 2 ^ 24 = 0 := by decide

theorem witness_TaskReloadAndCountWrites :
    (slot 3 1 4 1).tasks[3].ctrl.mode = .countdown ∧ (slot 3 3 4 1).tasks[3].ctrl.mode = .track := by decide

theorem witness_TaskModeChangeSetsCount :
    (2 : Word).getLsbD 1 = true ∧ (slot 3 1 4 1).tasks[3].ctrl.mode = .countdown ∧ (1 : Word).getLsbD 1 = false ∧
      (slot 3 3 4 1).tasks[3].ctrl.mode = .track := by decide

theorem witness_SenseChangeClearsLine :
    (9 : Word).toNat / 2 % 4 = State.reset.lines[2].ctrl.sense.bits.toNat ∧
      (3 : Word).toNat / 2 % 4 ≠ State.reset.lines[2].ctrl.sense.bits.toNat := by decide

/-- CURRENT 0, 1 and 2: the values where the cases meet. -/
theorem witness_TickCounterCounts :
    State.reset.tickCtrl.en = false ∧ State.reset.ticking.tickCtrl.en = true ∧
      (State.reset.ticking.setTickCurrent 0).tickCurrent = 0 ∧
        1 < (State.reset.ticking.setTickCurrent 2).tickCurrent.toNat ∧
      State.reset.ticking.tickCurrent.toNat = 1 := by decide

theorem witness_TickPeriodIsReloadPlusOne :
    (State.reset.ticking.setTickCurrent 0).tickCtrl.en = true ∧
        (State.reset.ticking.setTickCurrent 0).tickCurrent = 0 ∧
      (State.reset.ticking.setTickCurrent 0).tickReload ≠ 0 ∧ State.reset.tickReload = 0 := by decide

theorem witness_DispatchEvaluatesSlotsInOrder :
    State.reset.tickCtrl.dispatch = false ∧ State.reset.ticking.tickCtrl.dispatch = true := by decide

/-- A slot for each clause; in TRACK mode the counts on both sides of PERIOD - 1 = 0xFFFFFFFE. -/
theorem witness_EvaluationsWithoutBody :
    State.reset.tasks[3].ctrl.en = false ∧
      (slot 3 1 4 1).tasks[3].ctrl.en = true ∧ (slot 3 1 4 1).tasks[3].ctrl.mode = .countdown ∧
        (slot 3 1 4 1).tasks[3].count ≠ 0 ∧
      (slot 3 9 4 0).tasks[3].count = 0 ∧ (slot 3 9 4 0).tasks[3].ctrl.gateEn = true ∧
        (slot 3 9 4 0).tasks[3].ctrl.mode = .countdown ∧
      (slot 3 9 4 0).tasks[3].ctrl.en = true ∧
        (slot 3 9 4 0).flags.getLsbD (slot 3 9 4 0).tasks[3].ctrl.gateFlag.toNat = false ∧
      (slot 3 3 4 0xFFFFFFFD).tasks[3].ctrl.mode = .track ∧ (slot 3 3 4 0xFFFFFFFD).tasks[3].ctrl.en = true ∧
      (slot 3 3 4 0xFFFFFFFD).tasks[3].count.toNat + 1 < ((slot 3 3 4 0).measUnit 0).period.toNat ∧
      (slot 3 11 4 0xFFFFFFFE).tasks[3].ctrl.mode = .track ∧ (slot 3 11 4 0xFFFFFFFE).tasks[3].ctrl.en = true ∧
      ((slot 3 11 4 0).measUnit 0).period.toNat ≤ (slot 3 11 4 0xFFFFFFFE).tasks[3].count.toNat + 1 ∧
      (slot 3 11 4 0xFFFFFFFE).tasks[3].ctrl.gateEn = true := by decide

theorem witness_FiringRunsBodyThenReloads :
    ((slot 3 1 4 0).task 3).ctrl.en = true ∧ gateOpen (slot 3 1 4 0) 3 = true ∧
        ((slot 3 1 4 0).task 3).ctrl.mode = .countdown ∧
      ((slot 3 1 4 0).task 3).count = 0 ∧ ((slot 3 3 4 0xFFFFFFFE).task 3).ctrl.en = true ∧
        gateOpen (slot 3 3 4 0xFFFFFFFE) 3 = true ∧
      ((slot 3 3 4 0xFFFFFFFE).task 3).ctrl.mode = .track ∧
      ((slot 3 3 4 0xFFFFFFFE).measUnit ((slot 3 3 4 0xFFFFFFFE).task 3).ctrl.msel.toFin).period.toNat ≤
        ((slot 3 3 4 0xFFFFFFFE).task 3).count.toNat + 1 := by decide

theorem witness_CountdownFiresAfterCountTicks :
    (slot 3 1 4 2).tasks[3].ctrl.en = true ∧ (slot 3 1 4 2).tasks[3].ctrl.mode = .countdown ∧
        2 ≤ (slot 3 1 4 2).tasks[3].count.toNat ∧
      (slot 3 1 4 2).tasks[3].action = 0 ∧ gateOpen (slot 3 1 4 2) 3 = true := by decide

theorem witness_DisabledLineHasNoEvent :
    State.reset.lines[3].ctrl.en = false := by decide

/-- A falling edge, a rising edge, and no edge. -/
theorem witness_EdgeLineEvent :
    (wired 0x01 0 .idle false true).lines[3].ctrl.en = true ∧
        (wired 0x01 0 .idle false true).lines[3].debounce = 0 ∧ State.reset.lines[3].debounce = 0 ∧
        (wired 0x01 0 .idle false true).lines[3].ctrl.sense = .fall ∧
      (wired 0x01 0 .idle false true).lines[3].sync2 = true ∧ (wired 0x01 0 .idle false true).lines[3].sync1 = false ∧
      (wired 0x03 0 .idle true false).lines[3].ctrl.sense = .rise ∧
        (wired 0x03 0 .idle true false).lines[3].sync2 = false ∧
      (wired 0x03 0 .idle true false).lines[3].sync1 = true ∧
        (wired 0x03 0 .idle true true).lines[3].sync2 = true := by decide

theorem witness_LevelLineEvent :
    (wired 0x05 0 .idle false true).lines[3].ctrl.en = true ∧
        (wired 0x05 0 .idle false true).lines[3].ctrl.sense = .low ∧
      (wired 0x05 0 .idle false true).lines[3].sync1 = false ∧
        (wired 0x07 0 .idle true false).lines[3].ctrl.en = true ∧
      (wired 0x07 0 .idle true false).lines[3].ctrl.sense = .high ∧
        (wired 0x07 0 .idle true false).lines[3].sync1 = true ∧
      (wired 0x07 0 .idle false false).lines[3].sync1 = false := by decide

/-- Every DB state, the settle counts 2 and 1, both levels of a FALL line, and D = 0 now with D = 2 at the start. -/
theorem witness_DebouncedLineEvent :
    (wired 0x11 2 .idle false true).lines[3].ctrl.en = true ∧ (wired 0x11 2 .idle false true).lines[3].debounce ≠ 0 ∧
      (wired 0x11 2 .idle false true).lines[3].ctrl.sense = .fall ∧
        (wired 0x11 2 .idle false true).lines[3].db = .idle ∧
      (wired 0x11 2 .idle false true).lines[3].sync1 = false ∧
        (wired 0x11 2 .idle false true).lines[3].sync2 ≠ (wired 0x11 2 .idle false true).lines[3].sync1 ∧
      (wired 0x11 2 (.settle 2) false true).lines[3].db = .settle 2 ∧ 1 < (2 : Half).toNat ∧
      (wired 0x11 2 (.settle 1) false true).lines[3].db = .settle 1 ∧ (1 : Half).toNat ≤ 1 ∧
      (wired 0x11 2 (.settle 1) true true).lines[3].sync1 = true ∧
      (wired 0x11 2 .hold false true).lines[3].db = .hold ∧ (wired 0x11 2 .hold true true).lines[3].sync1 = true ∧
      (wired 0x11 0 (.settle 1) false false).lines[3].debounce = 0 ∧
        (wired 0x11 2 (.settle 1) false true).lines[3].debounce ≠ 0 := by decide

theorem witness_BothLineActionsRun :
    decode (State.reset.setLine 3 { Line.reset with act0 := 0xFFFF }).lines[3].act0 = .error .badFmt ∧
      ∃ (s1 s2 s3 u : State) (fire : Vector Bool 4), sampleLine 0 0xF false State.reset.lines State.reset = (fire[0], s1) ∧
        sampleLine 1 0xF false State.reset.lines s1 = (fire[1], s2) ∧
        sampleLine 2 0xF false State.reset.lines s2 = (fire[2], s3) ∧
        sampleLine 3 0xF false State.reset.lines s3 = (fire[3], u) := ⟨rfl, _, _, _, _, #v[false, false, false, false], rfl, rfl, rfl, rfl⟩

theorem witness_StepRunsCommandWord :
    decode 0x08000001 = .ok (.flagSet 1) ∧
      after (step { State.reset with inputs := [{ rst := false, pins := 5, req := some (cmdWrite 0x08000001) }] }) (fun t => t.flags == 1) = true ∧
      (State.reset.fed 5 none).nextInput.rst = false ∧ (tickCount State.reset).1 = false ∧
        (tickCount State.reset.ticking).1 = true := ⟨rfl, by decide, rfl, by decide, by decide⟩

theorem witness_FetchWordRunsNext :
    decodeTableWord 32 0x08000001 = some (.flagSet 1) ∧
      after (step (State.reset.withFetchWord 32 0x08000001)) (fun t => t.flags == 1) = true := ⟨rfl, by decide⟩

theorem witness_ResetStepGivesResetState :
    ({ State.reset with inputs := [{ rst := true, pins := 5, req := none }] } : State).nextInput.rst = true :=
        by decide

theorem witness_ResetStateValues :
    ({ State.reset with inputs := [{ rst := true, pins := 5, req := none }] } : State).nextInput.rst = true ∧
      after (step { State.reset with inputs := [{ rst := true, pins := 5, req := none }] })
        (fun _ => true) = true := by decide

theorem witness_SynchronisersAlwaysShift :
    (State.reset.fed 5 none).nextInput.rst = false ∧
        after (step (State.reset.fed 5 none)) (fun _ => true) = true := by decide

/-- The step that clears PEND.TICK and ticks (R137). -/
theorem witness_TickLeavesPending :
    (State.reset.ticking.fed 0xF (some clearTick)).nextInput.rst = false ∧
      after (busAccess (some clearTick) (State.reset.ticking.fed 0xF (some clearTick)).takeInput)
        (fun u => (tickCount u).1) = true ∧
      after (step (State.reset.ticking.fed 0xF (some clearTick))) (fun _ => true) = true := by decide

theorem witness_FlagsChangeOnlyByFlagWordsOrBus :
    (State.reset.fed 5 none).nextInput.rst = false ∧ NoBusWrite (State.reset.fed 5 none).nextInput ∧
      (∀ k : Fin 4, NotFlagWord (State.reset.task k).action) ∧
      (∀ i : Fin 4, NotFlagWord (State.reset.line i).act0 ∧ NotFlagWord (State.reset.line i).act1) ∧
      after (step (State.reset.fed 5 none)) (fun _ => true) = true := by
  have nop : NotFlagWord 0 := fun i h => by cases h; decide
  have tasks : ∀ k : Fin 4, (State.reset.task k).action = 0 := by decide
  have lines : ∀ i : Fin 4, (State.reset.line i).act0 = 0 ∧ (State.reset.line i).act1 = 0 := by decide
  refine ⟨by decide, fun q h => ?_, fun k => by rw [tasks k]; exact nop, fun i => ?_, by decide⟩
  · cases h
  · rw [(lines i).1, (lines i).2]; exact ⟨nop, nop⟩

theorem witness_ConfigurationChangesOnlyByBus :
    (State.reset.fed 5 (some (aRead 0x030 .word))).nextInput.rst = false ∧
      NoBusWrite (State.reset.fed 5 (some (aRead 0x030 .word))).nextInput ∧
      after (step (State.reset.fed 5 (some (aRead 0x030 .word))))
        (fun _ => true) = true := ⟨by decide, fun q h => by cases h; rfl, by decide⟩

theorem witness_LaterInputsDoNotMatter :
    after (step { State.reset with inputs := [{ rst := false, pins := 5, req := none }] })
        (fun _ => true) = true := by decide

theorem witness_StepKeepsCountsWithinReload :
    CountsWithinReload (slot 3 1 4 4) ∧
        after (step ((slot 3 1 4 4).fed 5 none))
        (fun _ => true) = true := ⟨by unfold CountsWithinReload; decide, by decide⟩

theorem witness_StepKeepsDebounceLegal :
    SettleCountsPositive (wired 0x11 2 (.settle 1) false false) ∧
      after (step ((wired 0x11 2 (.settle 1) false false).fed 5 none)) (fun _ => true) = true := by
  refine ⟨fun i c h => ?_, by decide⟩
  have all : ∀ i : Fin 4, ((wired 0x11 2 (.settle 1) false false).line i).db = .idle ∨
      ((wired 0x11 2 (.settle 1) false false).line i).db = .settle 1 := by decide
  obtain e | e := all i
  · rw [e] at h; cases h
  · rw [e] at h; cases h; decide

theorem witness_StepKeepsErrorRecordLegal :
    ErrorRecordLegal (raiseError .badOp .task 3 0xC8000000 State.reset) ∧
      after (step ((raiseError .badOp .task 3 0xC8000000 State.reset).fed 5 none))
        (fun _ => true) = true := ⟨by unfold ErrorRecordLegal; decide, by decide⟩

end Sys2Proof.Tests
end

/-! What executing an action can do, said once per family of actions. -/

namespace Sys2Proof.Machine

/-- The pairs of SRC and IDX that ERR_CODE may show: IDX is 0 unless a task or a line asks (R30). -/
def Requester.Legal (q : Requester) : Prop := q.src = .cmd ∨ q.src = .bus ∨ q.src = .tickCfg → q.idx = 0

/-- The values a step or an action stores in COUNT of slot k: in COUNTDOWN mode none above both RELOAD and the old COUNT
(R41, R172, R182, R183). -/
def CountStays (s : State) (k : Fin 4) (v : Word) : Prop :=
  (s.task k).ctrl.mode = .countdown → v.toNat ≤ (s.task k).reload.toNat ∨ v.toNat ≤ (s.task k).count.toNat

theorem periodStart_le {t : Task} (h : t.ctrl.mode = .countdown) : (periodStart t).toNat ≤ t.reload.toNat := by
  simp [periodStart, h]

theorem periodStart_stays (s : State) (k : Fin 4) : CountStays s k (periodStart (s.task k)) :=
  fun hm => .inl (periodStart_le hm)

theorem countWithin_stays (s : State) (k : Fin 4) (v : Word) : CountStays s k (countWithin (s.task k) v) := by
  intro hm
  by_cases hv : v.toNat ≤ (s.task k).reload.toNat <;> simp [countWithin, hm, hv]

theorem zero_stays (s : State) (k : Fin 4) : CountStays s k 0 := fun _ => .inl (Nat.zero_le _)

theorem reload_stays (s : State) (k : Fin 4) : CountStays s k (s.task k).reload := fun _ => .inl le_rfl

theorem pred_stays (s : State) (k : Fin 4) (h : (s.task k).count ≠ 0) : CountStays s k ((s.task k).count - 1) := by
  refine fun _ => .inr ?_
  bv_omega

/-- `ActionEffect i s t`: the family of `i` allows it to take `s` to `t`. Each constructor names the one register an
action of the family writes (R158, R182 to R185, R200 to R209, R271, R272, R290 to R299), or the error it raises. -/
inductive ActionEffect (i : Instr) (s : State) : State → Prop
  | nothing : ActionEffect i s s
  | error (code : ErrCause) (hc : code ≠ .none) : ActionEffect i s (raiseByAction code i s)
  | flags (v : Half) (h : i.opcode ∈ [Opcode.flagSet, .flagClr, .flagTgl, .flagLd]) : ActionEffect i s (s.setFlags v)
  | counter (c : Fin 4) (v : Word) (h : i.opcode ∈ [Opcode.cntAdd, .cntSub, .cntLd, .cntIncw, .cntDecw]) :
      ActionEffect i s (s.setCounter c v)
  | output (v : Word) (h : i.opcode ∈ [Opcode.outSet, .outClr, .outTgl, .seqShow]) : ActionEffect i s (s.setOut v)
  | advance (j : Fin 2) (e : Nat) (v : Word) (h : i.opcode ∈ [Opcode.seqAdv, .seqStep, .seqOvr]) :
      ActionEffect i s ((s.setCursor j e).setOut v)
  | place (j : Fin 2) (e : Nat) : ActionEffect i s (s.setCursor j e)
  | count (k : Fin 4) (v : Word) (h : CountStays s k v) : ActionEffect i s (s.setCount k v)
  | enable (k : Fin 4) (b : Bool) : ActionEffect i s (s.setTaskEn k b)
  | tickCurrent (v : BitVec 24) : ActionEffect i s (s.setTickCurrent v)
  | measure (u : Fin 2) (acc last period : Word) :
      ActionEffect i s (s.setMeasUnit u { s.measUnit u with acc := acc, last := last, period := period })

theorem onTarget_effect {α : Type} {i : Instr} {target : Option α} {s t : State} {f : α → State}
    (h : onTarget i target s f = .next t) (hf : ∀ a, ActionEffect i s (f a)) : ActionEffect i s t := by
  obtain ⟨-, e⟩ | ⟨a, -, e⟩ := onTarget_cases i target s f
  · cases e.symm.trans h
    exact .error _ (by decide)
  · cases e.symm.trans h
    exact hf a

theorem onSeqUnit_effect {i : Instr} {sel : BitVec 3} {s t : State} {f : Fin 2 → State}
    (h : onSeqUnit i sel s f = .next t) (hf : ∀ j, ActionEffect i s (f j)) : ActionEffect i s t := by
  refine onTarget_effect h fun j => ?_
  cases lenLegal s j
  · exact .error _ (by decide)
  · exact hf j

/-- Everything executing an action can do (R135). -/
theorem exec_effect {i : Instr} {s t : State} (h : exec i s = .next t) : ActionEffect i s t := by
  cases i with
  | nop => cases h; exact .nothing
  | flagSet imm => cases h; exact .flags _ (by simp [Instr.opcode])
  | flagClr imm => cases h; exact .flags _ (by simp [Instr.opcode])
  | flagTgl imm => cases h; exact .flags _ (by simp [Instr.opcode])
  | flagLd imm => cases h; exact .flags _ (by simp [Instr.opcode])
  | cntAdd sel imm => exact onTarget_effect h fun c => .counter _ _ (by simp [Instr.opcode])
  | cntSub sel imm => exact onTarget_effect h fun c => .counter _ _ (by simp [Instr.opcode])
  | cntLd sel imm => exact onTarget_effect h fun c => .counter _ _ (by simp [Instr.opcode])
  | cntIncw sel imm => exact onTarget_effect h fun c => .counter _ _ (by simp [Instr.opcode])
  | cntDecw sel imm => exact onTarget_effect h fun c => .counter _ _ (by simp [Instr.opcode])
  | outSet sel => exact onTarget_effect h fun m => .output _ (by simp [Instr.opcode])
  | outClr sel => exact onTarget_effect h fun m => .output _ (by simp [Instr.opcode])
  | outTgl sel => exact onTarget_effect h fun m => .output _ (by simp [Instr.opcode])
  | seqAdv sel => exact onSeqUnit_effect h fun j => .advance j _ _ (by simp [Instr.opcode])
  | seqStep sel => exact onSeqUnit_effect h fun j => .advance j _ _ (by simp [Instr.opcode])
  | seqOvr sel => exact onSeqUnit_effect h fun j => .advance j _ _ (by simp [Instr.opcode])
  | seqShow sel imm => exact onSeqUnit_effect h fun j => .output _ (by simp [Instr.opcode])
  | seqSetc sel imm => exact onSeqUnit_effect h fun j => .place j _
  | taskRst sel => exact onTarget_effect h fun k => .count k _ (periodStart_stays s k)
  | taskSetc sel imm => exact onTarget_effect h fun k => .count k _ (countWithin_stays s k _)
  | taskEn sel => exact onTarget_effect h fun k => .enable k _
  | taskDis sel => exact onTarget_effect h fun k => .enable k _
  | tickClr => cases h; exact .tickCurrent _
  | measCap sel => exact onTarget_effect h fun u => .measure u _ _ _
  | measClr sel => exact onTarget_effect h fun u => .measure u _ _ _

@[simp] theorem raiseByAction_flags (code : ErrCause) (i : Instr) (s : State) :
    (raiseByAction code i s).flags = s.flags := raiseError_flags ..

@[simp] theorem raiseByAction_cnt (code : ErrCause) (i : Instr) (s : State) :
    (raiseByAction code i s).cnt = s.cnt := raiseError_cnt ..

@[simp] theorem raiseByAction_out (code : ErrCause) (i : Instr) (s : State) :
    (raiseByAction code i s).out = s.out := raiseError_out ..

@[simp] theorem raiseByAction_lines (code : ErrCause) (i : Instr) (s : State) :
    (raiseByAction code i s).lines = s.lines := raiseError_lines ..

namespace ActionEffect

variable {i : Instr} {s t : State}

/-- Only a FLAG action changes FLAGS (R32). -/
theorem flags_eq (h : ActionEffect i s t) (hi : i.opcode ∉ [Opcode.flagSet, .flagClr, .flagTgl, .flagLd]) :
    t.flags = s.flags := by
  cases h with
  | flags v hf => exact absurd hf hi
  | _ => simp

/-- Only a CNT action changes a counter (R33). -/
theorem cnt_eq (h : ActionEffect i s t) (hi : i.opcode ∉ [Opcode.cntAdd, .cntSub, .cntLd, .cntIncw, .cntDecw]) :
    t.cnt = s.cnt := by
  cases h with
  | counter c v hc => exact absurd hc hi
  | _ => simp

/-- Only the OUT actions and four SEQ actions change OUT (R34). -/
theorem out_eq (h : ActionEffect i s t)
    (hi : i.opcode ∉ [Opcode.outSet, .outClr, .outTgl, .seqAdv, .seqStep, .seqOvr, .seqShow]) : t.out = s.out := by
  cases h with
  | output v ho => exact absurd (List.subset_def.1 (by decide) ho) hi
  | advance j e v ha => exact absurd (List.subset_def.1 (by decide) ha) hi
  | _ => simp

/-- No action touches a line or its hidden state. -/
theorem lines_eq (h : ActionEffect i s t) : t.lines = s.lines := by
  cases h <;> simp

end ActionEffect

/-- Settles O19: the effect of an action writes a shared register only when its family is the register's. -/
theorem sharedStateChangesOnlyByItsActions : Obligations.SharedStateChangesOnlyByItsActions := by
  unfold Obligations.SharedStateChangesOnlyByItsActions
  intro i s t h
  have effect := exec_effect h
  exact ⟨effect.flags_eq, effect.cnt_eq, effect.out_eq⟩

end Sys2Proof.Machine

/-! The configuration registers: what an update must leave alone to keep them, and that actions do. -/

namespace Sys2Proof.Machine

namespace SameConfiguration

theorem refl (s : State) : SameConfiguration s s :=
  ⟨rfl, rfl, rfl, fun _ => ⟨rfl, rfl, rfl⟩, fun _ => ⟨rfl, rfl, rfl, rfl⟩, fun _ => ⟨rfl, rfl⟩,
    fun _ => ⟨rfl, rfl, rfl⟩⟩

theorem trans {s t u : State} (h : SameConfiguration s t) (h' : SameConfiguration t u) :
    SameConfiguration s u := by
  obtain ⟨ctrl, reload, mask, task, line, meas, seq⟩ := h
  obtain ⟨ctrl', reload', mask', task', line', meas', seq'⟩ := h'
  refine ⟨ctrl'.trans ctrl, reload'.trans reload, mask'.trans mask, fun k => ?_, fun i => ?_, fun u => ?_, fun j => ?_⟩
  · obtain ⟨a, b, c⟩ := task k
    obtain ⟨a', b', c'⟩ := task' k
    exact ⟨a'.trans a, b'.trans b, c'.trans c⟩
  · obtain ⟨a, b, c, d⟩ := line i
    obtain ⟨a', b', c', d'⟩ := line' i
    exact ⟨a'.trans a, b'.trans b, c'.trans c, d'.trans d⟩
  · obtain ⟨a, b⟩ := meas u
    obtain ⟨a', b'⟩ := meas' u
    exact ⟨a'.trans a, b'.trans b⟩
  · obtain ⟨a, b, c⟩ := seq j
    obtain ⟨a', b', c'⟩ := seq' j
    exact ⟨a'.trans a, b'.trans b, c'.trans c⟩

/-- Raising an error writes no configuration (R322). -/
theorem raiseError (code : ErrCause) (src : Source) (idx : Fin 4) (info : Word) (s : State) :
    SameConfiguration s (raiseError code src idx info s) := by
  simp [SameConfiguration]

/-- A slot's COUNT and CTRL.EN are no configuration. -/
theorem setTask (s : State) (k : Fin 4) (v : Word) (b : Bool) :
    SameConfiguration s (s.setTask k { s.task k with count := v, ctrl := { (s.task k).ctrl with en := b } }) := by
  refine ⟨rfl, rfl, rfl, fun y => ?_, fun _ => ⟨rfl, rfl, rfl, rfl⟩, fun _ => ⟨rfl, rfl⟩, fun _ => ⟨rfl, rfl, rfl⟩⟩
  rw [State.task_setTask]
  split
  next h => subst h; exact ⟨rfl, rfl, rfl⟩
  next => exact ⟨rfl, rfl, rfl⟩

/-- A line's debounce state and flip-flops are no configuration. -/
theorem setLine (s : State) (i : Fin 4) (d : Debounce) (b1 b2 : Bool) :
    SameConfiguration s (s.setLine i { s.line i with db := d, sync1 := b1, sync2 := b2 }) := by
  refine ⟨rfl, rfl, rfl, fun _ => ⟨rfl, rfl, rfl⟩, fun y => ?_, fun _ => ⟨rfl, rfl⟩, fun _ => ⟨rfl, rfl, rfl⟩⟩
  rw [State.line_setLine]
  split
  next h => subst h; exact ⟨rfl, rfl, rfl, rfl⟩
  next => exact ⟨rfl, rfl, rfl, rfl⟩

/-- ACC, LAST and PERIOD of a measurement unit are no configuration. -/
theorem setMeasUnit (s : State) (u : Fin 2) (acc last period : Word) :
    SameConfiguration s (s.setMeasUnit u { s.measUnit u with acc := acc, last := last, period := period }) := by
  refine ⟨rfl, rfl, rfl, fun _ => ⟨rfl, rfl, rfl⟩, fun _ => ⟨rfl, rfl, rfl, rfl⟩, fun y => ?_, fun _ => ⟨rfl, rfl, rfl⟩⟩
  rw [State.measUnit_setMeasUnit]
  split
  next h => subst h; exact ⟨rfl, rfl⟩
  next => exact ⟨rfl, rfl⟩

/-- A sequence unit's cursor is no configuration. -/
theorem setCursor (s : State) (j : Fin 2) (e : Nat) : SameConfiguration s (s.setCursor j e) := by
  refine ⟨rfl, rfl, rfl, fun _ => ⟨rfl, rfl, rfl⟩, fun _ => ⟨rfl, rfl, rfl, rfl⟩, fun _ => ⟨rfl, rfl⟩, fun y => ?_⟩
  rw [State.seqUnit_setCursor]
  split
  next h => subst h; exact ⟨rfl, rfl, rfl⟩
  next => exact ⟨rfl, rfl, rfl⟩

end SameConfiguration

namespace ActionEffect

variable {i : Instr} {s t : State}

/-- No action writes a configuration register, a table or an action register (R53, R87). -/
theorem sameConfiguration (h : ActionEffect i s t) : SameConfiguration s t := by
  cases h with
  | error => exact .raiseError ..
  | advance j e v => exact .setCursor s j e
  | place j e => exact .setCursor s j e
  | count k v => exact .setTask s k v (s.task k).ctrl.en
  | enable k b => exact .setTask s k (s.task k).count b
  | measure u => exact .setMeasUnit s u ..
  | nothing | flags | counter | output | tickCurrent => exact .refl s

/-- No action touches PEND but for PEND.ERR, which it only sets (R27, R322). -/
theorem pend_eq (h : ActionEffect i s t) :
    t.pend.tick = s.pend.tick ∧ t.pend.task = s.pend.task ∧ t.pend.line = s.pend.line ∧
      (s.pend.err = true → t.pend.err = true) := by
  cases h with
  | error => simp [raiseByAction]
  | _ => simp

end ActionEffect

/-- Settles O20, from what the effect of an action leaves alone. -/
theorem actionsKeepConfigurationAndPending : Obligations.ActionsKeepConfigurationAndPending := by
  unfold Obligations.ActionsKeepConfigurationAndPending
  intro i s t h
  have effect := exec_effect h
  exact ⟨effect.sameConfiguration, effect.pend_eq⟩

end Sys2Proof.Machine

/-! What keeps a property through a step: closed under the elementary updates of the phases and under the effects of
actions. Each invariant is then checked once per elementary update. -/

namespace Sys2Proof.Machine

/-- The elementary updates a step makes outside register writes and the meanings of actions (R131): the environment's
fields, a captured error, the tick's bookkeeping (R150, R154, R270), a slot's count (R172, R276), a line's sample (R230)
and the pending and missed bits (R175, R240). -/
inductive Update (s : State) : State → Prop
  | input : Update s s.takeInput
  | response (v : BusResponse) : Update s (s.setRsp v)
  | requester (q : Requester) : Update s (s.setRequester q)
  | error (code : ErrCause) (src : Source) (idx : Fin 4) (info : Word) (hc : code ≠ .none)
      (hq : Requester.Legal ⟨src, idx⟩) : Update s (raiseError code src idx info s)
  | tickCurrent (v : BitVec 24) : Update s (s.setTickCurrent v)
  | ticks (v : Word) : Update s (s.setTicks v)
  | overrun (v : Word) : Update s (s.setOvrCnt v)
  | missed (v : Missed) : Update s (s.setMissed v)
  | pending (p : Pend) (hp : p.err = s.pend.err) : Update s (s.setPend p)
  | accumulate (u : Fin 2) (v : Word) : Update s (s.setMeasUnit u { s.measUnit u with acc := v })
  | count (k : Fin 4) (v : Word) (h : CountStays s k v) : Update s (s.setCount k v)
  | sample (i : Fin 4) (startD : Half) (pin tick : Bool) :
      Update s (s.setLine i (sampledLine (s.line i) startD pin tick))

/-- The words of the action registers (R40, R44): what a step may execute besides a CMD write. -/
def ActionWord (s : State) (w : Word) : Prop :=
  (∃ k, w = (s.task k).action) ∨ ∃ i, w = (s.line i).act0 ∨ w = (s.line i).act1

/-- Every next state that `f` answers in a state with `P` has `P`. -/
def Keeps (P : State → Prop) (f : State → Result) : Prop := ∀ s t, P s → f s = .next t → P t

/-- `P` is closed under what the phases of a step do, when the executed actions are `allowed`; in a state with `P` the
action registers hold only allowed actions. -/
structure StepClosed (allowed : Instr → Prop) (P : State → Prop) : Prop where
  update : ∀ {s t}, Update s t → P s → P t
  action : ∀ {i s t}, allowed i → s.requester.Legal → ActionEffect i s t → P s → P t
  words : ∀ {s w i}, P s → ActionWord s w → decode w = .ok i → allowed i

theorem Keeps.andThen {P : State → Prop} {f g : State → Result} (hf : Keeps P f) (hg : Keeps P g) :
    Keeps P fun s => andThen (f s) g := by
  intro s t hs h
  obtain ⟨u, hu, ht⟩ := (andThen_eq_next _ _ _).1 h
  exact hg u t (hf s u hs hu) ht

theorem Keeps.forEach {α : Type} {P : State → Prop} {f : α → State → Result} (l : List α) (hf : ∀ a, Keeps P (f a)) :
    Keeps P (forEach l f) := by
  induction l with
  | nil => intro s t hs h; cases h; exact hs
  | cons a l ih => exact (hf a).andThen ih

theorem decodeCause_ne_none (e : DecodeError) : decodeCause e ≠ .none := by
  cases e <;> decide

theorem update_pendTask (s : State) (k : Fin 4) : Update s (pendTask s k) := .pending _ rfl

theorem update_pendLine (s : State) (i : Fin 4) : Update s (pendLine s i) := .pending _ rfl

theorem Requester.Legal.task (k : Fin 4) : Requester.Legal ⟨.task, k⟩ := by simp [Requester.Legal]

theorem Requester.Legal.line0 (i : Fin 4) : Requester.Legal ⟨.line0, i⟩ := by simp [Requester.Legal]

theorem Requester.Legal.line1 (i : Fin 4) : Requester.Legal ⟨.line1, i⟩ := by simp [Requester.Legal]

theorem Requester.Legal.zero (src : Source) : Requester.Legal ⟨src, 0⟩ := by simp [Requester.Legal]

/-- Everything the consequences of a tick can do (R131, R170): bookkeeping, then the slots when DISPATCH is 1. -/
theorem tickPhase_cases (s : State) :
    ((tickEvent s).tickCtrl.dispatch = true ∧ tickPhase s = forEach [0, 1, 2, 3] evalTask (tickEvent s)) ∨
      ((tickEvent s).tickCtrl.dispatch = false ∧ tickPhase s = .next (tickEvent s)) := by
  unfold tickPhase
  cases h : (tickEvent s).tickCtrl.dispatch
  · exact .inr ⟨rfl, by simp [h]⟩
  · exact .inl ⟨rfl, by simp [h]⟩

namespace StepClosed

variable {allowed : Instr → Prop} {P : State → Prop}

theorem execWord (h : StepClosed allowed P) {w : Word} {src : Source} {idx : Fin 4} {s t : State}
    (hw : ∀ i, decode w = .ok i → allowed i) (hq : Requester.Legal ⟨src, idx⟩) (hs : P s)
    (ht : execWord w src idx s = .next t) : P t := by
  obtain ⟨e, -, he⟩ | ⟨i, hi, he⟩ := execWord_cases w src idx s
  · cases he.symm.trans ht
    exact h.update (.error _ _ _ _ (decodeCause_ne_none e) hq) hs
  · obtain ⟨u, hu, hr⟩ := (andThen_eq_next _ _ _).1 (he.symm.trans ht)
    cases hr
    have hP := h.update (.requester ⟨src, idx⟩) hs
    exact h.update (.requester _) (h.action (hw i hi) hq (exec_effect hu) hP)

theorem fire (h : StepClosed allowed P) (k : Fin 4) : Keeps P (fire k) := by
  intro s t hs ht
  obtain ⟨-, e⟩ | ⟨-, e⟩ := fire_cases k s
  · cases e.symm.trans ht
    exact hs
  · exact h.execWord (fun i hi => h.words hs (.inl ⟨k, rfl⟩) hi) (.task k) (h.update (update_pendTask s k) hs)
      (e.symm.trans ht)

theorem evalCountdown (h : StepClosed allowed P) (k : Fin 4) : Keeps P (evalCountdown k) := by
  intro s t hs ht
  unfold Machine.evalCountdown at ht
  split at ht
  next =>
    obtain ⟨u, hu, e⟩ := (andThen_eq_next _ _ _).1 ht
    cases e
    exact h.update (.count k _ (reload_stays u k)) (h.fire k s u hs hu)
  next hc =>
    cases ht
    exact h.update (.count k _ (pred_stays s k hc)) hs

theorem evalTrack (h : StepClosed allowed P) (k : Fin 4) {s t : State} (hm : (s.task k).ctrl.mode = .track) (hs : P s)
    (ht : evalTrack k s = .next t) : P t := by
  unfold Machine.evalTrack at ht
  split at ht
  next =>
    obtain ⟨u, hu, e⟩ := (andThen_eq_next _ _ _).1 ht
    cases e
    exact h.update (.count k _ (zero_stays u k)) (h.fire k s u hs hu)
  next =>
    cases ht
    exact h.update (.count k _ fun hc => absurd (hm.symm.trans hc) (by decide)) hs

theorem evalTask (h : StepClosed allowed P) (k : Fin 4) : Keeps P (evalTask k) := by
  intro s t hs ht
  obtain ⟨-, e⟩ | ⟨-, hm, e⟩ | ⟨-, -, e⟩ := evalTask_cases k s
  · cases e.symm.trans ht
    exact hs
  · exact h.evalTrack k hm hs (e.symm.trans ht)
  · exact h.evalCountdown k s t hs (e.symm.trans ht)

theorem tickEvent (h : StepClosed allowed P) {s : State} (hs : P s) : P (tickEvent s) := by
  have counted : P (recordOverrun (s.setTicks (s.ticks + 1))) := by
    unfold recordOverrun
    split
    next => exact h.update (.overrun _) (h.update (.missed _) (h.update (.ticks _) hs))
    next => exact h.update (.ticks _) hs
  exact h.update (.accumulate 1 _) (h.update (.accumulate 0 _) (h.update (.pending _ rfl) counted))

theorem tickPhase (h : StepClosed allowed P) : Keeps P tickPhase := by
  intro s t hs ht
  obtain ⟨-, e⟩ | ⟨-, e⟩ := tickPhase_cases s
  · exact Keeps.forEach _ h.evalTask _ t (h.tickEvent hs) (e.symm.trans ht)
  · cases e.symm.trans ht
    exact h.tickEvent hs

theorem tickCount (h : StepClosed allowed P) {s : State} (hs : P s) : P (tickCount s).2 := by
  obtain ⟨-, e⟩ | ⟨-, -, e⟩ | ⟨-, -, e⟩ := tickCount_cases s <;> rw [e]
  · exact hs
  · exact h.update (.tickCurrent _) hs
  · exact h.update (.tickCurrent _) hs

theorem recordEvent (h : StepClosed allowed P) (i : Fin 4) {s : State} (hs : P s) : P (recordEvent i s) := by
  unfold Machine.recordEvent
  split
  next => exact h.update (update_pendLine _ i) (h.update (.missed _) hs)
  next => exact h.update (update_pendLine s i) hs

theorem sampleLine (h : StepClosed allowed P) (i : Fin 4) (pins : BitVec 4) (tick : Bool) (start : Vector Line 4)
    {s : State} (hs : P s) : P (sampleLine i pins tick start s).2 := by
  obtain ⟨l, event, rfl, -, ⟨-, e⟩ | ⟨-, e⟩⟩ := sampleLine_cases i pins tick start s <;> rw [e]
  · exact h.update (.sample ..) hs
  · exact h.recordEvent i (h.update (.sample ..) hs)

theorem lineSample (h : StepClosed allowed P) (pins : BitVec 4) (tick : Bool) (start : Vector Line 4) {s : State}
    (hs : P s) : P (lineSample pins tick start s).2 :=
  h.sampleLine 3 _ _ _ (h.sampleLine 2 _ _ _ (h.sampleLine 1 _ _ _ (h.sampleLine 0 _ _ _ hs)))

theorem lineActions (h : StepClosed allowed P) (i : Fin 4) : Keeps P (lineActions i) := by
  intro s t hs ht
  obtain ⟨u, hu, ht⟩ := (andThen_eq_next _ _ _).1 ht
  have first := h.execWord (fun _ hi => h.words hs (.inr ⟨i, .inl rfl⟩) hi) (.line0 i) hs hu
  exact h.execWord (fun _ hi => h.words first (.inr ⟨i, .inr rfl⟩) hi) (.line1 i) first ht

theorem linePhase (h : StepClosed allowed P) (pins : BitVec 4) (tick : Bool) (start : Vector Line 4) :
    Keeps P (linePhase pins tick start) := by
  intro s t hs ht
  refine Keeps.forEach _ (fun i u v hu hv => ?_) _ t (h.lineSample pins tick start hs) ht
  split at hv
  next => exact h.lineActions i u v hu hv
  next => cases hv; exact hu

/-- Phases 2 to 4 of a step (R131). -/
theorem afterBus (h : StepClosed allowed P) (pins : BitVec 4) (start : Vector Line 4) :
    Keeps P (afterBus pins start) := by
  intro s t hs ht
  obtain ⟨-, e⟩ | ⟨-, e⟩ := afterBus_cases pins start s
  · exact h.linePhase pins false start _ t (h.tickCount hs) (e.symm.trans ht)
  · exact h.tickPhase.andThen (h.linePhase pins true start) _ t (h.tickCount hs) (e.symm.trans ht)

/-- A bus access keeps what its register write keeps (R75). -/
theorem busAccess (h : StepClosed allowed P) (req : Option BusRequest)
    (hw : ∀ q r, req = some q → q.write = true → Keeps P (regWrite r q.wdata)) : Keeps P (busAccess req) := by
  intro s t hs ht
  obtain ⟨-, e⟩ | ⟨q, hq, ⟨-, e⟩ | ⟨-, hwr, e⟩ | ⟨-, -, e⟩⟩ := busAccess_cases req s
  · cases e.symm.trans ht
    exact h.update (.response _) hs
  · cases e.symm.trans ht
    exact h.update (.response _) (h.update (.error _ _ _ _ (by decide) (.zero _)) hs)
  · obtain ⟨u, hu, e⟩ := (andThen_eq_next _ _ _).1 (e.symm.trans ht)
    cases e
    refine h.update (.response _) ?_
    unfold windowWrite at hu
    split at hu
    next => cases hu; exact hs
    next r _ => exact hw q r hq hwr s u hs hu
  · cases e.symm.trans ht
    exact h.update (.response _) hs

/-- A step without a reset and without a bus write keeps every such property (R131). -/
theorem step_of_noBusWrite (h : StepClosed allowed P) {s t : State} (hrst : s.nextInput.rst = false)
    (hbus : NoBusWrite s.nextInput) (hs : P s) (ht : step s = .next t) : P t := by
  obtain ⟨hr, -⟩ | ⟨-, e⟩ := step_cases s
  · exact absurd (hr.symm.trans hrst) (by decide)
  · have access : Keeps P (Machine.busAccess s.nextInput.req) :=
      h.busAccess _ fun q _ hq hw => absurd (hw.symm.trans (hbus q hq)) (by decide)
    exact access.andThen (h.afterBus _ _) _ t (h.update .input hs) (e.symm.trans ht)

/-- A step keeps every such property that holds after a reset and that register writes keep (R131, R132). -/
theorem step (h : StepClosed allowed P) (hreset : ∀ s : State, P s.toReset) (hwrite : ∀ r v, Keeps P (regWrite r v)) :
    Keeps P step := by
  intro s t hs ht
  obtain ⟨-, e⟩ | ⟨-, e⟩ := step_cases s
  · cases e.symm.trans ht
    exact hreset _
  · exact (h.busAccess _ fun _ r _ _ => hwrite r _).andThen (h.afterBus _ _) _ t (h.update .input hs) (e.symm.trans ht)

end StepClosed

end Sys2Proof.Machine

/-! What a step without a bus write leaves alone: the configuration, and FLAGS where no FLAG word is registered. -/

namespace Sys2Proof.Machine

namespace Update

variable {s t : State}

/-- No elementary update of the phases writes configuration. -/
theorem sameConfiguration (h : Update s t) : SameConfiguration s t := by
  cases h with
  | error => exact .raiseError ..
  | accumulate u v => exact .setMeasUnit s u v ..
  | count k v => exact .setTask s k v (s.task k).ctrl.en
  | sample i => exact .setLine s i ..
  | input | response | requester | tickCurrent | ticks | overrun | missed | pending => exact .refl s

/-- FLAGS change by no event of the step itself (R32). -/
theorem flags_eq (h : Update s t) : t.flags = s.flags := by
  cases h with
  | error => exact raiseError_flags ..
  | _ => rfl

end Update

/-- The action registers are configuration. -/
theorem ActionWord.of_sameConfiguration {s t : State} {w : Word} (hw : ActionWord t w) (h : SameConfiguration s t) :
    ActionWord s w := by
  obtain ⟨-, -, -, task, line, -, -⟩ := h
  obtain ⟨k, rfl⟩ | ⟨i, rfl | rfl⟩ := hw
  · obtain ⟨-, action, -⟩ := task k
    exact .inl ⟨k, action⟩
  · obtain ⟨-, -, act0, -⟩ := line i
    exact .inr ⟨i, .inl act0⟩
  · obtain ⟨-, -, -, act1⟩ := line i
    exact .inr ⟨i, .inr act1⟩

theorem notFlagWord_iff (w : Word) :
    NotFlagWord w ↔ ∀ i, decode w = .ok i → i.opcode ∉ [Opcode.flagSet, .flagClr, .flagTgl, .flagLd] := by
  simp [NotFlagWord]

/-- The phases and actions of a step keep the configuration of any state before it. -/
theorem stepClosed_sameConfiguration (s : State) : StepClosed (fun _ => True) (SameConfiguration s) where
  update h hs := hs.trans h.sameConfiguration
  action _ _ h hs := hs.trans h.sameConfiguration
  words _ _ _ := trivial

/-- The phases of a step keep FLAGS where the action registers hold no FLAG word. They keep the action registers too, so
that stays so throughout the step. -/
theorem stepClosed_flags (s : State) (hs : ∀ w, ActionWord s w → NotFlagWord w) :
    StepClosed (fun i => i.opcode ∉ [Opcode.flagSet, .flagClr, .flagTgl, .flagLd])
      (fun t => SameConfiguration s t ∧ t.flags = s.flags) where
  update h := fun ⟨config, flags⟩ => ⟨config.trans h.sameConfiguration, h.flags_eq.trans flags⟩
  action hi _ h := fun ⟨config, flags⟩ => ⟨config.trans h.sameConfiguration, (h.flags_eq hi).trans flags⟩
  words := fun ⟨config, _⟩ hw hi => (notFlagWord_iff _).1 (hs _ (hw.of_sameConfiguration config)) _ hi

/-- Settles O55: the configuration of the step's first state is kept by every phase and action. -/
theorem configurationChangesOnlyByBus : Obligations.ConfigurationChangesOnlyByBus := by
  unfold Obligations.ConfigurationChangesOnlyByBus
  intro s t hrst hbus h
  exact (stepClosed_sameConfiguration s).step_of_noBusWrite hrst hbus (.refl s) h

/-- Settles O54: with the configuration the action registers stay, so no FLAG word comes to run in the step. -/
theorem flagsChangeOnlyByFlagWordsOrBus : Obligations.FlagsChangeOnlyByFlagWordsOrBus := by
  unfold Obligations.FlagsChangeOnlyByFlagWordsOrBus
  intro s t hrst hbus htask hline h
  have words : ∀ w, ActionWord s w → NotFlagWord w := by
    rintro w (⟨k, rfl⟩ | ⟨i, rfl | rfl⟩)
    · exact htask k
    · exact (hline i).1
    · exact (hline i).2
  exact ((stepClosed_flags s words).step_of_noBusWrite hrst hbus ⟨.refl s, rfl⟩ h).2

end Sys2Proof.Machine

/-! What the register writes with side effects do (R27, R155, R181, R245), and which registers they leave alone. -/

namespace Sys2Proof.Machine

/-- PEND with the bits cleared that `v` writes 1 (R27, R76). -/
def Pend.cleared (p : Pend) (v : Word) : Pend :=
  { tick := p.tick && !(v.getLsbD 0)
    task := w1c p.task (v.extractLsb' 4 4)
    line := w1c p.line (v.extractLsb' 8 4)
    err := p.err && !(v.getLsbD 15) }

/-- MISSED with the bits cleared that `v` writes 1 (R28, R76). -/
def Missed.cleared (m : Missed) (v : Word) : Missed :=
  { tickOvr := m.tickOvr && !(v.getLsbD 0)
    line := w1c m.line (v.extractLsb' 8 4) }

/-! Write-1-to-clear of a word is write-1-to-clear of its fields. -/

theorem w1c_append {m n w : Nat} (a : BitVec m) (b : BitVec n) (v : BitVec w) (start : Nat) :
    w1c (a ++ b) (v.extractLsb' start (m + n)) =
      w1c a (v.extractLsb' (start + n) m) ++ w1c b (v.extractLsb' start n) := by
  unfold w1c
  ext i hi
  by_cases h : i < n
  · simp [BitVec.getElem_append, h]
  · have split : start + n + (i - n) = start + i := by omega
    simp [BitVec.getElem_append, h, split]

theorem w1c_zero {n : Nat} (v : BitVec n) : w1c 0#n v = 0#n := BitVec.zero_and

theorem w1c_bit (b : Bool) (v : BitVec 1) : w1c (bit b) v = bit (b && !(v.getLsbD 0)) := by
  unfold w1c bit
  ext i hi
  obtain rfl : i = 0 := by omega
  simp

theorem Pend.word_cleared (p : Pend) (v : Word) : (p.cleared v).word = w1c p.word v := by
  have fields : w1c (0#16 ++ bit p.err ++ 0#3 ++ p.line ++ p.task ++ 0#3 ++ bit p.tick) (v.extractLsb' 0 _) =
      (p.cleared v).word := by
    simp only [w1c_append, w1c_bit, w1c_zero, -Nat.reduceAdd]
    simp [Pend.word, Pend.cleared]
  exact fields.symm.trans (congrArg _ BitVec.extractLsb'_eq_self)

theorem Missed.word_cleared (m : Missed) (v : Word) : (m.cleared v).word = w1c m.word v := by
  have fields : w1c (0#20 ++ m.line ++ 0#7 ++ bit m.tickOvr) (v.extractLsb' 0 _) = (m.cleared v).word := by
    simp only [w1c_append, w1c_bit, w1c_zero, -Nat.reduceAdd]
    simp [Missed.word, Missed.cleared]
  exact fields.symm.trans (congrArg _ BitVec.extractLsb'_eq_self)

/-- Everything a write of PEND can do (R27, R30). -/
theorem writePend_cases (v : Word) (s : State) :
    (v.getLsbD 15 = true ∧
        writePend v s =
          { s with
            pend := s.pend.cleared v
            errCode := { code := .none, src := .cmd, idx := 0, multi := false }
            errInfo := 0 }) ∨
      (v.getLsbD 15 = false ∧ writePend v s = { s with pend := s.pend.cleared v }) := by
  unfold writePend Pend.cleared
  cases v.getLsbD 15
  · exact .inr ⟨rfl, by simp [State.setPend]⟩
  · exact .inl ⟨rfl, by simp [State.setPend, clearError, State.setErrCode, State.setErrInfo]⟩

/-- Everything the check of a TICK_CTRL or TICK_RELOAD write can do (R155). -/
theorem checkReload_cases (v : Word) (s : State) :
    checkReload v s = s ∨ checkReload v s = raiseError .badReload .tickCfg 0 v s := by
  unfold checkReload
  split
  next => exact .inr rfl
  next => exact .inl rfl

/-- Everything a write of TASK[k].CTRL can do (R181). -/
theorem writeTaskCtrl_cases (k : Fin 4) (v : Word) (s : State) :
    ((TaskCtrl.ofWord v).mode = (s.task k).ctrl.mode ∧
        writeTaskCtrl k v s = s.setTask k { s.task k with ctrl := TaskCtrl.ofWord v }) ∨
      ((TaskCtrl.ofWord v).mode ≠ (s.task k).ctrl.mode ∧
        writeTaskCtrl k v s =
          s.setTask k
            { s.task k with
              ctrl := TaskCtrl.ofWord v, count := periodStart { s.task k with ctrl := TaskCtrl.ofWord v } }) := by
  by_cases h : (TaskCtrl.ofWord v).mode = (s.task k).ctrl.mode
  · exact .inl ⟨h, if_pos h⟩
  · exact .inr ⟨h, if_neg h⟩

/-- Everything a write of LINE[i].CTRL can do (R245). -/
theorem writeLineCtrl_cases (i : Fin 4) (v : Word) (s : State) :
    ((LineCtrl.ofWord v).sense = (s.line i).ctrl.sense ∧
        writeLineCtrl i v s = s.setLine i { s.line i with ctrl := LineCtrl.ofWord v }) ∨
      ((LineCtrl.ofWord v).sense ≠ (s.line i).ctrl.sense ∧
        writeLineCtrl i v s =
          unmissLine (unpendLine (s.setLine i { s.line i with ctrl := LineCtrl.ofWord v, db := .idle }) i) i) := by
  by_cases h : (LineCtrl.ofWord v).sense = (s.line i).ctrl.sense
  · exact .inl ⟨h, if_pos h⟩
  · exact .inr ⟨h, if_neg h⟩

@[simp] theorem checkReload_tasks (v : Word) (s : State) : (checkReload v s).tasks = s.tasks := by
  obtain e | e := checkReload_cases v s <;> simp [e]

@[simp] theorem checkReload_lines (v : Word) (s : State) : (checkReload v s).lines = s.lines := by
  obtain e | e := checkReload_cases v s <;> simp [e]

@[simp] theorem writeTickCtrl_tasks (v : Word) (s : State) : (writeTickCtrl v s).tasks = s.tasks := checkReload_tasks ..

@[simp] theorem writeTickCtrl_lines (v : Word) (s : State) : (writeTickCtrl v s).lines = s.lines := checkReload_lines ..

@[simp] theorem writeTickReload_tasks (v : Word) (s : State) : (writeTickReload v s).tasks = s.tasks :=
  checkReload_tasks ..

@[simp] theorem writeTickReload_lines (v : Word) (s : State) : (writeTickReload v s).lines = s.lines :=
  checkReload_lines ..

@[simp] theorem writePend_tasks (v : Word) (s : State) : (writePend v s).tasks = s.tasks := by
  obtain ⟨-, e⟩ | ⟨-, e⟩ := writePend_cases v s <;> rw [e]

@[simp] theorem writePend_lines (v : Word) (s : State) : (writePend v s).lines = s.lines := by
  obtain ⟨-, e⟩ | ⟨-, e⟩ := writePend_cases v s <;> rw [e]

@[simp] theorem writeTaskCtrl_lines (k : Fin 4) (v : Word) (s : State) : (writeTaskCtrl k v s).lines = s.lines := by
  obtain ⟨-, e⟩ | ⟨-, e⟩ := writeTaskCtrl_cases k v s <;> rw [e] <;> rfl

@[simp] theorem writeTaskReload_lines (k : Fin 4) (v : Word) (s : State) : (writeTaskReload k v s).lines = s.lines := by
  unfold writeTaskReload; split <;> rfl

@[simp] theorem writeLineCtrl_tasks (i : Fin 4) (v : Word) (s : State) : (writeLineCtrl i v s).tasks = s.tasks := by
  obtain ⟨-, e⟩ | ⟨-, e⟩ := writeLineCtrl_cases i v s <;> rw [e] <;> rfl

/-- Settles O29: the cleared fields are the bits that `v` writes 1. -/
theorem pendingIsWriteOneToClear : Obligations.PendingIsWriteOneToClear := by
  unfold Obligations.PendingIsWriteOneToClear
  intro v s
  refine ⟨⟨s.pend.cleared v, Pend.word_cleared _ v, fun h => ?_, fun h => ?_⟩,
    s.missed.cleared v, Missed.word_cleared _ v, rfl⟩
  · obtain ⟨-, e⟩ | ⟨h', -⟩ := writePend_cases v s
    · exact congrArg Host.Outcome.next e
    · exact absurd (h.symm.trans h') (by decide)
  · obtain ⟨h', -⟩ | ⟨-, e⟩ := writePend_cases v s
    · exact absurd (h.symm.trans h') (by decide)
    · exact congrArg Host.Outcome.next e

end Sys2Proof.Machine

/-! R41: COUNT is at most RELOAD in COUNTDOWN slots, kept by phases, actions and register writes. -/

namespace Sys2Proof.Machine

namespace CountsWithinReload

theorem of_tasks_eq {s t : State} (hs : CountsWithinReload s) (h : t.tasks = s.tasks) : CountsWithinReload t := by
  intro k
  have task : t.task k = s.task k := by simp [State.task, h]
  rw [task]
  exact hs k

/-- A slot may be replaced by one that keeps the rule. -/
theorem setTask {s : State} (hs : CountsWithinReload s) (k : Fin 4) (v : Task)
    (hv : v.ctrl.mode = .countdown → v.count.toNat ≤ v.reload.toNat) : CountsWithinReload (s.setTask k v) := by
  intro y
  rw [State.task_setTask]
  split
  next => exact hv
  next => exact hs y

theorem setCount {s : State} (hs : CountsWithinReload s) {k : Fin 4} {v : Word} (hv : CountStays s k v) :
    CountsWithinReload (s.setCount k v) :=
  hs.setTask k _ fun hm => (hv hm).elim id fun h => h.trans (hs k hm)

theorem toReset (s : State) : CountsWithinReload s.toReset := by
  intro k _
  simp [State.task, State.toReset, State.reset, Task.reset]

theorem update {s t : State} (h : Update s t) (hs : CountsWithinReload s) : CountsWithinReload t := by
  cases h with
  | error => exact hs.of_tasks_eq (raiseError_tasks ..)
  | count k v hv => exact hs.setCount hv
  | _ => exact hs.of_tasks_eq rfl

theorem action {i : Instr} {s t : State} (h : ActionEffect i s t) (hs : CountsWithinReload s) :
    CountsWithinReload t := by
  cases h with
  | error => exact hs.of_tasks_eq (raiseError_tasks ..)
  | count k v hv => exact hs.setCount hv
  | enable k b => exact hs.setTask k _ (hs k)
  | _ => exact hs.of_tasks_eq rfl

theorem stepClosed : StepClosed (fun _ => True) CountsWithinReload where
  update := update
  action _ _ := action
  words _ _ _ := trivial

/-- A write of CTRL keeps MODE, and with it the rule, or starts a period (R181). -/
theorem writeTaskCtrl {s : State} (hs : CountsWithinReload s) (k : Fin 4) (v : Word) :
    CountsWithinReload (writeTaskCtrl k v s) := by
  obtain ⟨hm, e⟩ | ⟨-, e⟩ := writeTaskCtrl_cases k v s <;> rw [e]
  · exact hs.setTask k _ fun hc => hs k (hm.symm.trans hc)
  · exact hs.setTask k _ periodStart_le

/-- A write of RELOAD sets COUNT too in COUNTDOWN mode (R180). -/
theorem writeTaskReload {s : State} (hs : CountsWithinReload s) (k : Fin 4) (v : Word) :
    CountsWithinReload (writeTaskReload k v s) := by
  unfold Machine.writeTaskReload
  split
  next => exact hs.setTask k _ fun _ => le_rfl
  next hm => exact hs.setTask k _ fun hc => absurd (hm.symm.trans hc) (by decide)

/-- Every register write keeps R41: only four registers of a slot and a CMD write reach a slot at all. -/
theorem regWrite (r : Reg) (v : Word) : Keeps CountsWithinReload (regWrite r v) := by
  intro s t hs h
  cases r with
  | cmd => exact stepClosed.execWord (fun _ _ => trivial) (.zero _) hs h
  | taskCtrl k => cases h; exact hs.writeTaskCtrl k v
  | taskReload k => cases h; exact hs.writeTaskReload k v
  | taskCount k => cases h; exact hs.setCount (countWithin_stays s k v)
  | taskAction k => cases h; exact hs.setTask k _ (hs k)
  | _ => cases h; exact hs.of_tasks_eq (by simp [writeMissed, writeSeqCtrl, writeSeqTable])

end CountsWithinReload

/-- Settles O57: R41 holds after a reset and is kept by every register write, phase and action. -/
theorem stepKeepsCountsWithinReload : Obligations.StepKeepsCountsWithinReload := by
  unfold Obligations.StepKeepsCountsWithinReload
  exact CountsWithinReload.stepClosed.step CountsWithinReload.toReset CountsWithinReload.regWrite

end Sys2Proof.Machine

/-! R55 and R232 to R234: settle counts are positive, and a line that is disabled, in level mode or without debounce is
IDLE once it is sampled. -/

namespace Sys2Proof.Machine

/-- The settings of a line under which it has no debouncing (R232, R233, R234). -/
def Line.Inactive (l : Line) : Prop := l.ctrl.en = false ∨ l.ctrl.sense = .low ∨ l.ctrl.sense = .high ∨ l.debounce = 0

theorem detect_of_inactive {l : Line} (h : l.Inactive) (startD : Half) (old2 new2 tick : Bool) :
    (detect l startD old2 new2 tick).1 = .idle := by
  obtain ⟨-, e⟩ | ⟨-, -, e⟩ | ⟨-, -, -, e⟩ | ⟨en, edge, -, r, -, e⟩ := detect_cases l startD old2 new2 tick <;> rw [e]
  obtain dis | low | high | zero := h
  · exact absurd (dis.symm.trans en) (by decide)
  · exact absurd edge (by simp [low, levelMode])
  · exact absurd edge (by simp [high, levelMode])
  · exact if_pos zero

/-- Sampling leaves an inactive line IDLE: it does not touch the settings. -/
theorem sampledLine_db_of_inactive {l : Line} (startD : Half) (pin tick : Bool)
    (h : (sampledLine l startD pin tick).Inactive) : (sampledLine l startD pin tick).db = .idle :=
  detect_of_inactive (l := l) h ..

/-- A settle count the settle machine answers is D or one below a count above 1 (R239). -/
theorem settle_count_pos {db : Debounce} {d : Half} (raw active tick : Bool) (hd : d ≠ 0)
    (hdb : ∀ c, db = .settle c → 1 ≤ c.toNat) (c : Half) (h : (settle db d raw active tick).1 = .settle c) :
    1 ≤ c.toNat := by
  have hd1 : 1 ≤ d.toNat := by bv_omega
  cases db with
  | idle => cases raw <;> simp [settle] at h; exact h ▸ hd1
  | hold => cases active <;> simp [settle] at h
  | settle c' =>
    have hc' := hdb c' rfl
    simp only [settle] at h
    split_ifs at h with htick hlong hact <;> cases h
    · exact hc'
    · bv_omega

theorem sampledLine_count_pos {l : Line} (startD : Half) (pin tick : Bool) (hl : ∀ c, l.db = .settle c → 1 ≤ c.toNat)
    (c : Half) (h : (sampledLine l startD pin tick).db = .settle c) : 1 ≤ c.toNat := by
  replace h : (detect l startD l.sync2 l.sync1 tick).1 = .settle c := h
  by_cases hd : l.debounce = 0
  · cases (detect_of_inactive (.inr (.inr (.inr hd))) ..).symm.trans h
  · obtain ⟨-, e⟩ | ⟨-, -, e⟩ | ⟨-, -, -, e⟩ | ⟨-, -, -, r, rfl, e⟩ := detect_cases l startD l.sync2 l.sync1 tick <;>
      rw [e] at h
    · cases h
    · cases h
    · cases h
    · simp only [if_neg hd] at h
      exact settle_count_pos _ _ _ hd hl c h

/-! Which lines the parts of a step write. -/

theorem line_of_lines_eq {s t : State} (h : t.lines = s.lines) (i : Fin 4) : t.line i = s.line i := by
  simp [State.line, h]

@[simp] theorem recordEvent_line (i y : Fin 4) (s : State) : (recordEvent i s).line y = s.line y := by
  unfold recordEvent; split <;> rfl

/-- Sampling a line writes that line alone (R230). -/
theorem sampleLine_line (i y : Fin 4) (pins : BitVec 4) (tick : Bool) (start : Vector Line 4) (s : State) :
    (sampleLine i pins tick start s).2.line y =
      if i = y then sampledLine (s.line i) start[i].debounce (pins.getLsbD i.val) tick else s.line y := by
  obtain ⟨l, event, rfl, -, ⟨-, e⟩ | ⟨-, e⟩⟩ := sampleLine_cases i pins tick start s <;> rw [e]
  · exact State.line_setLine ..
  · exact (recordEvent_line ..).trans (State.line_setLine ..)

/-- Every line is sampled once, from its state before the sampling (R131, R134). -/
theorem lineSample_line (i : Fin 4) (pins : BitVec 4) (tick : Bool) (start : Vector Line 4) (s : State) :
    (lineSample pins tick start s).2.line i =
      sampledLine (s.line i) start[i].debounce (pins.getLsbD i.val) tick := by
  unfold lineSample
  fin_cases i <;> simp [sampleLine_line]

theorem execWord_lines {w : Word} {src : Source} {idx : Fin 4} {s t : State} (h : execWord w src idx s = .next t) :
    t.lines = s.lines := by
  obtain ⟨_, -, e⟩ | ⟨i, -, e⟩ := execWord_cases w src idx s
  · cases e.symm.trans h
    exact raiseError_lines ..
  · obtain ⟨u, hu, e⟩ := (andThen_eq_next _ _ _).1 (e.symm.trans h)
    cases e
    exact (exec_effect hu).lines_eq

theorem lineActions_lines {i : Fin 4} {s t : State} (h : lineActions i s = .next t) : t.lines = s.lines := by
  obtain ⟨u, hu, ht⟩ := (andThen_eq_next _ _ _).1 h
  exact (execWord_lines ht).trans (execWord_lines hu)

/-- The line phase leaves every line as it sampled it: no action reaches a line. -/
theorem linePhase_line {pins : BitVec 4} {tick : Bool} {start : Vector Line 4} {s t : State}
    (h : linePhase pins tick start s = .next t) (i : Fin 4) :
    t.line i = sampledLine (s.line i) start[i].debounce (pins.getLsbD i.val) tick := by
  have kept : t.lines = (lineSample pins tick start s).2.lines := by
    refine Keeps.forEach (P := fun u => u.lines = _) _ (fun i u v hu hv => ?_) _ t rfl h
    split at hv
    next => exact (lineActions_lines hv).trans hu
    next => cases hv; exact hu
  exact (line_of_lines_eq kept i).trans (lineSample_line ..)

/-- A step resets, or it ends with the line phase on some state (R131, R132). -/
theorem step_ends_with_linePhase {s t : State} (h : step s = .next t) :
    t = s.takeInput.toReset ∨ ∃ u tick, linePhase s.nextInput.pins tick s.lines u = .next t := by
  obtain ⟨-, e⟩ | ⟨-, e⟩ := step_cases s
  · cases e.symm.trans h
    exact .inl rfl
  · right
    obtain ⟨u, -, hu⟩ := (andThen_eq_next _ _ _).1 (e.symm.trans h)
    obtain ⟨-, e⟩ | ⟨-, e⟩ := afterBus_cases s.nextInput.pins s.lines u
    · exact ⟨_, _, e.symm.trans hu⟩
    · obtain ⟨v, -, hv⟩ := (andThen_eq_next _ _ _).1 (e.symm.trans hu)
      exact ⟨v, _, hv⟩

theorem toReset_line (s : State) (i : Fin 4) : s.toReset.line i = Line.reset := by
  simp [State.line, State.toReset, State.reset]

theorem inactiveLinesIdle_of_step {s t : State} (h : step s = .next t) : InactiveLinesIdle t := by
  intro i hi
  obtain rfl | ⟨u, tick, hu⟩ := step_ends_with_linePhase h
  · rw [toReset_line]; rfl
  · rw [linePhase_line hu i] at hi ⊢
    exact sampledLine_db_of_inactive _ _ _ hi

namespace SettleCountsPositive

theorem of_lines_eq {s t : State} (hs : SettleCountsPositive s) (h : t.lines = s.lines) : SettleCountsPositive t := by
  intro i
  rw [line_of_lines_eq h]
  exact hs i

/-- A line may be replaced by one with a legal debounce state. -/
theorem setLine {s : State} (hs : SettleCountsPositive s) (i : Fin 4) (v : Line)
    (hv : ∀ c, v.db = .settle c → 1 ≤ c.toNat) : SettleCountsPositive (s.setLine i v) := by
  intro y
  rw [State.line_setLine]
  split
  next => exact hv
  next => exact hs y

theorem toReset (s : State) : SettleCountsPositive s.toReset := by
  intro i c h
  rw [toReset_line] at h
  cases h

theorem stepClosed : StepClosed (fun _ => True) SettleCountsPositive where
  update h hs := by
    cases h with
    | error => exact hs.of_lines_eq (raiseError_lines ..)
    | sample i startD pin tick => exact hs.setLine i _ (sampledLine_count_pos _ _ _ (hs i))
    | _ => exact hs.of_lines_eq rfl
  action _ _ h hs := hs.of_lines_eq h.lines_eq
  words _ _ _ := trivial

/-- A write of LINE[i].CTRL keeps the debounce state or makes it IDLE (R245). -/
theorem writeLineCtrl {s : State} (hs : SettleCountsPositive s) (i : Fin 4) (v : Word) :
    SettleCountsPositive (writeLineCtrl i v s) := by
  obtain ⟨-, e⟩ | ⟨-, e⟩ := writeLineCtrl_cases i v s <;> rw [e]
  · exact hs.setLine i _ (hs i)
  · have idle := hs.setLine i { s.line i with ctrl := LineCtrl.ofWord v, db := .idle } fun c h => nomatch h
    exact idle.of_lines_eq rfl

/-- No register write starts settling: only four registers of a line and a CMD write reach a line at all. -/
theorem regWrite (r : Reg) (v : Word) : Keeps SettleCountsPositive (regWrite r v) := by
  intro s t hs h
  cases r with
  | cmd => exact stepClosed.execWord (fun _ _ => trivial) (.zero _) hs h
  | lineCtrl i => cases h; exact hs.writeLineCtrl i v
  | lineDebounce i => cases h; exact hs.setLine i _ (hs i)
  | lineAct0 i => cases h; exact hs.setLine i _ (hs i)
  | lineAct1 i => cases h; exact hs.setLine i _ (hs i)
  | _ => cases h; exact hs.of_lines_eq (by simp [writeMissed, writeTaskCount, writeSeqCtrl, writeSeqTable])

end SettleCountsPositive

/-- Settles O58: the settle machine never answers a count of 0, and the line phase that ends a step leaves inactive
lines IDLE. -/
theorem stepKeepsDebounceLegal : Obligations.StepKeepsDebounceLegal := by
  unfold Obligations.StepKeepsDebounceLegal
  exact fun s t h =>
    ⟨fun hs => SettleCountsPositive.stepClosed.step .toReset .regWrite s t hs h, inactiveLinesIdle_of_step h⟩

end Sys2Proof.Machine

/-! R30, R31, R320 and R322: the error record is legal, kept by phases, actions and register writes. -/

namespace Sys2Proof.Machine

namespace ErrorRecordLegal

/-- The record is PEND.ERR, ERR_CODE and ERR_INFO. -/
theorem of_record_eq {s t : State} (hs : ErrorRecordLegal s) (hp : t.pend.err = s.pend.err)
    (hc : t.errCode = s.errCode) (hi : t.errInfo = s.errInfo) : ErrorRecordLegal t := by
  unfold ErrorRecordLegal
  rw [hp, hc, hi]
  exact hs

/-- Without a captured error the record is all 0. -/
theorem of_cleared {s : State} (hp : s.pend.err = false)
    (hc : s.errCode = { code := .none, src := .cmd, idx := 0, multi := false }) (hi : s.errInfo = 0) :
    ErrorRecordLegal s :=
  ⟨fun _ => ⟨hc, hi⟩, fun h => absurd (hp.symm.trans h) (by decide), fun _ => by rw [hc]⟩

theorem toReset (s : State) : ErrorRecordLegal s.toReset := of_cleared rfl rfl rfl

/-- A raised error is the first one, with its own cause and requester, or it only sets MULTI (R322). -/
theorem raiseError {s : State} (hs : ErrorRecordLegal s) {code : ErrCause} {src : Source} {idx : Fin 4} (info : Word)
    (hc : code ≠ .none) (hq : Requester.Legal ⟨src, idx⟩) : ErrorRecordLegal (raiseError code src idx info s) := by
  obtain ⟨-, captured, index⟩ := hs
  obtain ⟨hp, e⟩ | ⟨hp, e⟩ := raiseError_cases code src idx info s <;> rw [e]
  · exact ⟨fun h => absurd (hp.symm.trans h) (by decide), fun _ => captured hp, index⟩
  · exact ⟨(nomatch ·), fun _ => hc, hq⟩

theorem stepClosed : StepClosed (fun _ => True) ErrorRecordLegal where
  update h hs := by
    cases h with
    | error code src idx info hc hq => exact hs.raiseError info hc hq
    | pending p hp => exact hs.of_record_eq hp rfl rfl
    | _ => exact hs.of_record_eq rfl rfl rfl
  action _ hq h hs := by
    cases h with
    | error code hc => exact hs.raiseError _ hc hq
    | _ => exact hs.of_record_eq rfl rfl rfl
  words _ _ _ := trivial

theorem checkReload {s : State} (hs : ErrorRecordLegal s) (v : Word) : ErrorRecordLegal (checkReload v s) := by
  obtain e | e := checkReload_cases v s <;> rw [e]
  · exact hs
  · exact hs.raiseError v (by decide) (.zero _)

/-- A write of PEND clears the whole record or leaves it (R30). -/
theorem writePend {s : State} (hs : ErrorRecordLegal s) (v : Word) : ErrorRecordLegal (writePend v s) := by
  obtain ⟨hv, e⟩ | ⟨hv, e⟩ := writePend_cases v s <;> rw [e]
  · exact of_cleared (by simp only [Pend.cleared, hv, Bool.not_true, Bool.and_false]) rfl rfl
  · exact hs.of_record_eq (by simp only [Pend.cleared, hv, Bool.not_false, Bool.and_true]) rfl rfl

/-- Every register write keeps the record legal: PEND clears it, the tick registers may raise BADRELOAD, a CMD write may
raise in CMD's name, and a change of SENSE clears other bits of PEND. -/
theorem regWrite (r : Reg) (v : Word) : Keeps ErrorRecordLegal (regWrite r v) := by
  intro s t hs h
  cases r with
  | cmd => exact stepClosed.execWord (fun _ _ => trivial) (.zero _) hs h
  | tickCtrl =>
    cases h
    have stored : ErrorRecordLegal (s.setTickCtrl (TickCtrl.ofWord v)) := hs.of_record_eq rfl rfl rfl
    exact stored.checkReload v
  | tickReload =>
    cases h
    have stored : ErrorRecordLegal (s.setTickReload (v.extractLsb' 0 24)) := hs.of_record_eq rfl rfl rfl
    exact stored.checkReload v
  | pend => cases h; exact hs.writePend v
  | taskCtrl k =>
    cases h
    obtain ⟨-, e⟩ | ⟨-, e⟩ := writeTaskCtrl_cases k v s <;> rw [e] <;> exact hs.of_record_eq rfl rfl rfl
  | taskReload k => cases h; unfold writeTaskReload; split <;> exact hs.of_record_eq rfl rfl rfl
  | lineCtrl i =>
    cases h
    obtain ⟨-, e⟩ | ⟨-, e⟩ := writeLineCtrl_cases i v s <;> rw [e] <;> exact hs.of_record_eq rfl rfl rfl
  | _ => cases h; exact hs.of_record_eq rfl rfl rfl

end ErrorRecordLegal

/-- Settles O59: the record is legal after a reset, and only raising an error and the W1C of PEND.ERR write it. -/
theorem stepKeepsErrorRecordLegal : Obligations.StepKeepsErrorRecordLegal := by
  unfold Obligations.StepKeepsErrorRecordLegal
  exact ErrorRecordLegal.stepClosed.step ErrorRecordLegal.toReset ErrorRecordLegal.regWrite

end Sys2Proof.Machine

/-! The register map (R77, R78): which offset a register stands at, and which register an offset finds. -/

namespace Sys2Proof.Machine

theorem Reg.offset_lt (r : Reg) : r.offset < 0x1000 := by
  cases r <;> simp only [Reg.offset] <;> omega

/-- The map finds a register at its own offset. -/
@[simp] theorem regAt_offset (r : Reg) : regAt r.offset = some r := by
  cases r with
  | cnt c => revert c; decide
  | mask m => revert m; decide
  | taskCtrl k | taskReload k | taskCount k | taskAction k => revert k; decide
  | lineCtrl i | lineDebounce i | lineAct0 i | lineAct1 i | lineStat i => revert i; decide
  | measAcc u | measLast u | measPeriod u | measMin u | measMax u => revert u; decide
  | seqCtrl j | seqCur j => revert j; decide
  | seqTable j e => revert j e; decide
  | _ => rfl

/-! Each part of the map finds a register only at the register's offset. -/

theorem offset_of_blockReg {a : Nat} {r : Reg} (h : blockReg a = some r) : r.offset = a := by
  unfold blockReg at h
  split at h <;> cases h <;> rfl

theorem offset_of_taskReg {k : Fin 4} {a : Nat} {r : Reg} (h : taskReg k a = some r) :
    r.offset = 0x100 + 0x20 * k.val + a := by
  unfold taskReg at h
  split at h <;> cases h <;> rfl

theorem offset_of_lineReg {i : Fin 4} {a : Nat} {r : Reg} (h : lineReg i a = some r) :
    r.offset = 0x200 + 0x20 * i.val + a := by
  unfold lineReg at h
  split at h <;> cases h <;> rfl

theorem offset_of_measReg {u : Fin 2} {a : Nat} {r : Reg} (h : measReg u a = some r) :
    r.offset = 0x300 + 0x20 * u.val + a := by
  unfold measReg at h
  split at h <;> cases h <;> rfl

theorem offset_of_seqReg {j : Fin 2} {a : Nat} {r : Reg} (ha : a % 4 = 0) (h : seqReg j a = some r) :
    r.offset = 0x400 + 0x100 * j.val + a := by
  unfold seqReg at h
  split_ifs at h <;> cases h <;> simp only [Reg.offset, Fin.val_ofNat] <;> omega

/-- An offset at which the map finds a register is that register's: it lies in one of the map's seven parts. -/
theorem offset_of_regAt {a : Nat} {r : Reg} (h : regAt a = some r) : r.offset = a := by
  simp only [regAt, ite_eq_iff, reduceCtorEq, and_false, or_false, false_or, Option.some.injEq] at h
  obtain ⟨aligned, ⟨-, block⟩ | ⟨_, ⟨_, rfl⟩ | ⟨_, _, ⟨_, rfl⟩ | ⟨_, _, ⟨_, task⟩ | ⟨_, _, ⟨_, line⟩ | ⟨_, _,
    ⟨_, meas⟩ | ⟨_, _, _, seq⟩⟩⟩⟩⟩⟩⟩ := h
  · exact offset_of_blockReg block
  · simp only [Reg.offset, Fin.val_ofNat]
    omega
  · simp only [Reg.offset, Fin.val_ofNat]
    omega
  · rw [offset_of_taskReg task, Fin.val_ofNat]
    omega
  · rw [offset_of_lineReg line, Fin.val_ofNat]
    omega
  · rw [offset_of_measReg meas, Fin.val_ofNat]
    omega
  · rw [offset_of_seqReg (by omega) seq, Fin.val_ofNat]
    omega

theorem regAt_of_unmapped {a : Nat} (h : ∀ r : Reg, r.offset ≠ a) : regAt a = none :=
  Option.eq_none_iff_forall_ne_some.2 fun r hr => h r (offset_of_regAt hr)

/-- Settles O24: the map and the offsets are inverse to each other. -/
theorem registerMapIsOneToOne : Obligations.RegisterMapIsOneToOne := by
  unfold Obligations.RegisterMapIsOneToOne
  exact ⟨fun r => ⟨r.offset_lt, regAt_offset r⟩, fun a r h => (offset_of_regAt h).symm⟩

end Sys2Proof.Machine

/-! Reads and writes of the window, and the bus access that makes them (R73 to R77, R79). -/

namespace Sys2Proof.Machine

theorem windowRead_offset (r : Reg) (s : State) : windowRead s r.offset = regRead r s := by
  simp [windowRead]

theorem windowWrite_offset (r : Reg) (v : Word) (s : State) : windowWrite r.offset v s = regWrite r v s := by
  simp [windowWrite]

theorem windowRead_of_unmapped {a : Nat} (h : regAt a = none) (s : State) : windowRead s a = 0 := by
  simp [windowRead, h]

theorem windowWrite_of_unmapped {a : Nat} (h : regAt a = none) (v : Word) (s : State) :
    windowWrite a v s = .next s := by
  simp [windowWrite, h]

theorem permitted_iff (q : BusRequest) : permitted q = true ↔ q.size = .word ∧ q.addr.toNat % 4 = 0 := by
  simp [permitted]

theorem busAccess_refused {q : BusRequest} (h : permitted q = false) (s : State) :
    busAccess (some q) s =
      .next ((raiseError .access .bus 0 (q.addr.setWidth 32) s).setRsp { rdata := 0, error := true }) := by
  simp [busAccess, h]

theorem busAccess_read {q : BusRequest} (h : permitted q = true) (hw : q.write = false) (s : State) :
    busAccess (some q) s = .next (s.setRsp { rdata := windowRead s q.addr.toNat, error := false }) := by
  simp [busAccess, h, hw]

theorem busAccess_write {q : BusRequest} (h : permitted q = true) (hw : q.write = true) (s : State) :
    busAccess (some q) s =
      andThen (windowWrite q.addr.toNat q.wdata s) fun t => .next (t.setRsp { rdata := 0, error := false }) := by
  simp [busAccess, h, hw]

/-- Settles O25: the map finds nothing at an unmapped offset, and the write of an RO register is no update. -/
theorem unmappedAndReadOnlyIgnoreWrites : Obligations.UnmappedAndReadOnlyIgnoreWrites := by
  unfold Obligations.UnmappedAndReadOnlyIgnoreWrites
  refine ⟨fun a v s h => ?_, fun v s r h => ?_⟩
  · have unmapped := regAt_of_unmapped h
    exact ⟨windowRead_of_unmapped unmapped s, windowWrite_of_unmapped unmapped v s⟩
  · rw [windowWrite_offset]
    obtain rfl | rfl | rfl | rfl | ⟨i, rfl⟩ | ⟨u, rfl⟩ := h <;> rfl

/-- Settles O26: a request that is no aligned word is not permitted. -/
theorem illegalAccessIsRefused : Obligations.IllegalAccessIsRefused := by
  unfold Obligations.IllegalAccessIsRefused
  intro q s h
  have refused : permitted q = false := by
    rw [← Bool.not_eq_true, permitted_iff, not_and_or]
    exact h
  exact busAccess_refused refused s

/-- Settles O27: a permitted read and an absent request write the response alone. -/
theorem readsChangeNothing : Obligations.ReadsChangeNothing := by
  unfold Obligations.ReadsChangeNothing
  exact ⟨fun q s hsize haddr hw => busAccess_read ((permitted_iff q).2 ⟨hsize, haddr⟩) hw s, fun s => rfl⟩

end Sys2Proof.Machine

/-! Every action completes (R86, R138): the two shells of actions with a target answer a next state on every path. -/

namespace Sys2Proof.Machine

theorem onTarget_completes {α : Type} (i : Instr) (target : Option α) (s : State) (f : α → State) :
    ∃ t, onTarget i target s f = .next t := by
  obtain ⟨-, e⟩ | ⟨a, -, e⟩ := onTarget_cases i target s f
  · exact ⟨_, e⟩
  · exact ⟨_, e⟩

theorem onSeqUnit_completes (i : Instr) (sel : BitVec 3) (s : State) (f : Fin 2 → State) :
    ∃ t, onSeqUnit i sel s f = .next t := onTarget_completes ..

/-- Settles O17: an action has no target and is one update, or it runs in one of the two shells. -/
theorem everyActionCompletes : Obligations.EveryActionCompletes := by
  unfold Obligations.EveryActionCompletes
  intro i s
  cases i with
  | nop | flagSet | flagClr | flagTgl | flagLd | tickClr => exact ⟨_, rfl⟩
  | cntAdd | cntSub | cntLd | cntIncw | cntDecw => exact onTarget_completes ..
  | outSet | outClr | outTgl => exact onTarget_completes ..
  | seqAdv | seqStep | seqOvr | seqShow | seqSetc => exact onSeqUnit_completes ..
  | taskRst | taskSetc | taskEn | taskDis => exact onTarget_completes ..
  | measCap | measClr => exact onTarget_completes ..

end Sys2Proof.Machine

/-! The fields of written data, packed again as the register reads, are the data under the field bits (R76). A mask is
written as its fields, and the data is masked field by field. -/

namespace Sys2Proof.Machine

/-- The bits of `v` from `start` on, under a mask. -/
def maskedFrom {w n : Nat} (v : BitVec w) (start : Nat) (mask : BitVec n) : BitVec n := v.extractLsb' start n &&& mask

theorem maskedFrom_append {w m n : Nat} (v : BitVec w) (start : Nat) (a : BitVec m) (b : BitVec n) :
    maskedFrom v start (a ++ b) = maskedFrom v (start + n) a ++ maskedFrom v start b := by
  unfold maskedFrom
  ext i hi
  by_cases h : i < n
  · simp [BitVec.getElem_append, h]
  · have split : start + n + (i - n) = start + i := by omega
    simp [BitVec.getElem_append, h, split]

theorem maskedFrom_zero {w : Nat} (v : BitVec w) (start n : Nat) : maskedFrom v start 0#n = 0#n := BitVec.and_zero

theorem maskedFrom_allOnes {w : Nat} (v : BitVec w) (start n : Nat) :
    maskedFrom v start (BitVec.allOnes n) = v.extractLsb' start n := BitVec.and_allOnes

theorem maskedFrom_self {w : Nat} (v mask : BitVec w) : maskedFrom v 0 mask = v &&& mask :=
  congrArg (· &&& mask) BitVec.extractLsb'_eq_self

theorem bit_getLsbD {w : Nat} (v : BitVec w) (i : Nat) : bit (v.getLsbD i) = v.extractLsb' i 1 := by
  unfold bit
  ext j hj
  obtain rfl : j = 0 := by omega
  simp

theorem TaskMode.bit_ofBit (b : Bool) : (TaskMode.ofBit b).bit = b := by
  cases b <;> rfl

theorem Sense.bits_ofBits (v : BitVec 2) : (Sense.ofBits v).bits = v := by
  revert v
  decide

theorem TickCtrl.word_ofWord (v : Word) : (TickCtrl.ofWord v).word = v &&& 0x00000007 := by
  have fields : maskedFrom v 0 (0#29 ++ BitVec.allOnes 1 ++ BitVec.allOnes 1 ++ BitVec.allOnes 1) =
      (TickCtrl.ofWord v).word := by
    simp only [maskedFrom_append, maskedFrom_zero, maskedFrom_allOnes, Nat.zero_add, TickCtrl.word, TickCtrl.ofWord,
      bit_getLsbD]
  exact fields.symm.trans (maskedFrom_self v _)

theorem TaskCtrl.word_ofWord (v : Word) : (TaskCtrl.ofWord v).word = v &&& 0x000001FF := by
  have fields : maskedFrom v 0
        (0#23 ++ BitVec.allOnes 1 ++ BitVec.allOnes 4 ++ BitVec.allOnes 1 ++ BitVec.allOnes 1 ++ BitVec.allOnes 1 ++
          BitVec.allOnes 1) =
      (TaskCtrl.ofWord v).word := by
    simp only [maskedFrom_append, maskedFrom_zero, maskedFrom_allOnes, Nat.zero_add, TaskCtrl.word, TaskCtrl.ofWord,
      TaskMode.bit_ofBit, bit_getLsbD]
  exact fields.symm.trans (maskedFrom_self v _)

theorem LineCtrl.word_ofWord (v : Word) : (LineCtrl.ofWord v).word = v &&& 0x0000031F := by
  have fields : maskedFrom v 0
        (0#22 ++ BitVec.allOnes 2 ++ 0#3 ++ BitVec.allOnes 1 ++ BitVec.allOnes 1 ++ BitVec.allOnes 2 ++
          BitVec.allOnes 1) =
      (LineCtrl.ofWord v).word := by
    simp only [maskedFrom_append, maskedFrom_zero, maskedFrom_allOnes, Nat.zero_add, LineCtrl.word, LineCtrl.ofWord,
      Sense.bits_ofBits, bit_getLsbD]
  exact fields.symm.trans (maskedFrom_self v _)

theorem seqCtrlWord_of_fields (q : SeqUnit) (v : Word) :
    seqCtrlWord { q with len := v.extractLsb' 0 5, msel := v.extractLsb' 8 3 } = v &&& 0x0000071F := by
  have fields : maskedFrom v 0 (0#21 ++ BitVec.allOnes 3 ++ 0#3 ++ BitVec.allOnes 5) =
      seqCtrlWord { q with len := v.extractLsb' 0 5, msel := v.extractLsb' 8 3 } := by
    simp only [maskedFrom_append, maskedFrom_zero, maskedFrom_allOnes, Nat.zero_add, seqCtrlWord]
  exact fields.symm.trans (maskedFrom_self v _)

/-- A field of the low `n` bits, read with 0 above it. -/
theorem zeros_append_lowField (m n : Nat) (v : BitVec (m + n)) :
    0#m ++ v.extractLsb' 0 n = v &&& (0#m ++ BitVec.allOnes n) := by
  rw [← maskedFrom_self, maskedFrom_append, maskedFrom_zero, maskedFrom_allOnes]

/-! The register writes with side effects store the fields all the same (R155, R180, R181, R245). -/

theorem writeTickCtrl_tickCtrl (v : Word) (s : State) : (writeTickCtrl v s).tickCtrl = TickCtrl.ofWord v := by
  unfold writeTickCtrl
  obtain e | e := checkReload_cases v (s.setTickCtrl (TickCtrl.ofWord v)) <;> simp [e]

theorem writeTickReload_tickReload (v : Word) (s : State) :
    (writeTickReload v s).tickReload = v.extractLsb' 0 24 := by
  unfold writeTickReload
  obtain e | e := checkReload_cases v (s.setTickReload (v.extractLsb' 0 24)) <;> simp [e]

theorem writeTaskReload_reload (k : Fin 4) (v : Word) (s : State) : ((writeTaskReload k v s).task k).reload = v := by
  unfold writeTaskReload
  split <;> simp

theorem writeTaskCtrl_ctrl (k : Fin 4) (v : Word) (s : State) :
    ((writeTaskCtrl k v s).task k).ctrl = TaskCtrl.ofWord v := by
  obtain ⟨-, e⟩ | ⟨-, e⟩ := writeTaskCtrl_cases k v s <;> simp [e]

theorem writeLineCtrl_ctrl (i : Fin 4) (v : Word) (s : State) :
    ((writeLineCtrl i v s).line i).ctrl = LineCtrl.ofWord v := by
  obtain ⟨-, e⟩ | ⟨-, e⟩ := writeLineCtrl_cases i v s <;> simp [e, unmissLine, unpendLine]

/-! What a plain register write leaves alone (R80). A line or unit after the write is compared with the one before it: a
field that differs is the written register's. -/

namespace OnlyRegisterChanges

variable (s : State)

theorem setTicks (v : Word) : OnlyRegisterChanges .ticks s (s.setTicks v) := by
  refine ⟨fun r hr => ?_, fun _ => rfl, rfl, rfl, rfl, rfl⟩
  cases r with
  | ticks => exact absurd rfl hr
  | _ => rfl

theorem setOvrCnt (v : Word) : OnlyRegisterChanges .ovrCnt s (s.setOvrCnt v) := by
  refine ⟨fun r hr => ?_, fun _ => rfl, rfl, rfl, rfl, rfl⟩
  cases r with
  | ovrCnt => exact absurd rfl hr
  | _ => rfl

theorem setFlags (v : Half) : OnlyRegisterChanges .flags s (s.setFlags v) := by
  refine ⟨fun r hr => ?_, fun _ => rfl, rfl, rfl, rfl, rfl⟩
  cases r with
  | flags => exact absurd rfl hr
  | _ => rfl

theorem setOut (v : Word) : OnlyRegisterChanges .out s (s.setOut v) := by
  refine ⟨fun r hr => ?_, fun _ => rfl, rfl, rfl, rfl, rfl⟩
  cases r with
  | out => exact absurd rfl hr
  | _ => rfl

theorem setCounter (c : Fin 4) (v : Word) : OnlyRegisterChanges (.cnt c) s (s.setCounter c v) := by
  refine ⟨fun r hr => ?_, fun _ => rfl, rfl, rfl, rfl, rfl⟩
  cases r with
  | cnt y => exact State.counter_setCounter_ne s c y v fun h => hr (h ▸ rfl)
  | _ => rfl

theorem setMaskReg (m : Fin 8) (v : Word) : OnlyRegisterChanges (.mask m) s (s.setMaskReg m v) := by
  refine ⟨fun r hr => ?_, fun _ => rfl, rfl, rfl, rfl, rfl⟩
  cases r with
  | mask y => exact State.maskReg_setMaskReg_ne s m y v fun h => hr (h ▸ rfl)
  | _ => rfl

theorem setTaskAction (k : Fin 4) (v : Word) :
    OnlyRegisterChanges (.taskAction k) s (s.setTask k { s.task k with action := v }) := by
  refine ⟨fun r hr => ?_, fun _ => rfl, rfl, rfl, rfl, rfl⟩
  cases r with
  | taskCtrl y | taskReload y | taskCount y | taskAction y =>
    simp only [regRead, State.task_setTask]
    split
    next h => subst h; simp_all
    next => rfl
  | _ => rfl

variable {r : Reg}

theorem setLine (i : Fin 4) {d : Half} {a0 a1 : Word} (hd : .lineDebounce i ≠ r → d = (s.line i).debounce)
    (h0 : .lineAct0 i ≠ r → a0 = (s.line i).act0) (h1 : .lineAct1 i ≠ r → a1 = (s.line i).act1) :
    OnlyRegisterChanges r s (s.setLine i { s.line i with debounce := d, act0 := a0, act1 := a1 }) := by
  have sync (y : Fin 4) : ((s.setLine i { s.line i with debounce := d, act0 := a0, act1 := a1 }).line y).sync1 =
        (s.line y).sync1 ∧
      ((s.setLine i { s.line i with debounce := d, act0 := a0, act1 := a1 }).line y).sync2 = (s.line y).sync2 := by
    rw [State.line_setLine]
    split
    next h => subst h; exact ⟨rfl, rfl⟩
    next => exact ⟨rfl, rfl⟩
  refine ⟨fun r' hr => ?_, fun y => (sync y).1, rfl, rfl, rfl, rfl⟩
  cases r' with
  | lineCtrl y | lineDebounce y | lineAct0 y | lineAct1 y | lineStat y =>
    simp only [regRead, State.line_setLine]
    split
    next h => subst h; simp_all
    next => rfl
  | pins => simp [regRead, pinsWord, sync]
  | _ => rfl

theorem setMeasUnit (u : Fin 2) {acc period lo hi : Word} (hacc : .measAcc u ≠ r → acc = (s.measUnit u).acc)
    (hperiod : .measPeriod u ≠ r → period = (s.measUnit u).period) (hlo : .measMin u ≠ r → lo = (s.measUnit u).min)
    (hhi : .measMax u ≠ r → hi = (s.measUnit u).max) :
    OnlyRegisterChanges r s
      (s.setMeasUnit u { s.measUnit u with acc := acc, period := period, min := lo, max := hi }) := by
  refine ⟨fun r' hr => ?_, fun _ => rfl, rfl, rfl, rfl, rfl⟩
  cases r' with
  | measAcc y | measLast y | measPeriod y | measMin y | measMax y =>
    simp only [regRead, State.measUnit_setMeasUnit]
    split
    next h => subst h; simp_all
    next => rfl
  | _ => rfl

theorem setSeqUnit (j : Fin 2) {q : SeqUnit} (hctrl : .seqCtrl j ≠ r → seqCtrlWord q = seqCtrlWord (s.seqUnit j))
    (hcur : .seqCur j ≠ r → q.cur = (s.seqUnit j).cur)
    (htable : ∀ e, .seqTable j e ≠ r → q.table[e] = (s.seqUnit j).table[e]) :
    OnlyRegisterChanges r s (s.setSeqUnit j q) := by
  refine ⟨fun r' hr => ?_, fun _ => rfl, rfl, rfl, rfl, rfl⟩
  cases r' with
  | seqCtrl y | seqCur y | seqTable y =>
    simp only [regRead, State.seqUnit_setSeqUnit]
    split
    next h => subst h; simp_all
    next => rfl
  | _ => rfl

end OnlyRegisterChanges

/-- The write of `v` completes, `r` then reads `v` under `fieldBits`, and no other register changes if the write is
plain. -/
def FieldsReadBack (r : Reg) (fieldBits v : Word) (s : State) : Prop :=
  ∃ t, regWrite r v s = .next t ∧ regRead r t = v &&& fieldBits ∧ (PlainWrite r → OnlyRegisterChanges r s t)

namespace FieldsReadBack

/-- A register that stores every bit. -/
theorem of_read_eq {r : Reg} {v : Word} {s t : State} (write : regWrite r v s = .next t) (read : regRead r t = v)
    (frame : PlainWrite r → OnlyRegisterChanges r s t) : FieldsReadBack r 0xFFFFFFFF v s :=
  ⟨t, write, read.trans BitVec.and_allOnes.symm, frame⟩

variable (v : Word) (s : State)

theorem ticks : FieldsReadBack .ticks 0xFFFFFFFF v s := of_read_eq rfl rfl fun _ => .setTicks s v

theorem ovrCnt : FieldsReadBack .ovrCnt 0xFFFFFFFF v s := of_read_eq rfl rfl fun _ => .setOvrCnt s v

theorem out : FieldsReadBack .out 0xFFFFFFFF v s := of_read_eq rfl rfl fun _ => .setOut s v

theorem cnt (c : Fin 4) : FieldsReadBack (.cnt c) 0xFFFFFFFF v s :=
  of_read_eq rfl (by simp [regRead]) fun _ => .setCounter s c v

theorem mask (m : Fin 8) : FieldsReadBack (.mask m) 0xFFFFFFFF v s :=
  of_read_eq rfl (by simp [regRead]) fun _ => .setMaskReg s m v

theorem taskReload (k : Fin 4) : FieldsReadBack (.taskReload k) 0xFFFFFFFF v s :=
  of_read_eq rfl (writeTaskReload_reload k v s) fun plain => absurd plain (by simp [PlainWrite])

theorem taskAction (k : Fin 4) : FieldsReadBack (.taskAction k) 0xFFFFFFFF v s :=
  of_read_eq rfl (by simp [regRead]) fun _ => .setTaskAction s k v

theorem lineAct0 (i : Fin 4) : FieldsReadBack (.lineAct0 i) 0xFFFFFFFF v s :=
  of_read_eq rfl (by simp [regRead]) fun _ => .setLine s i (fun _ => rfl) (absurd rfl ·) (fun _ => rfl)

theorem lineAct1 (i : Fin 4) : FieldsReadBack (.lineAct1 i) 0xFFFFFFFF v s :=
  of_read_eq rfl (by simp [regRead]) fun _ => .setLine s i (fun _ => rfl) (fun _ => rfl) (absurd rfl ·)

theorem measAcc (u : Fin 2) : FieldsReadBack (.measAcc u) 0xFFFFFFFF v s :=
  of_read_eq rfl (by simp [regRead]) fun _ =>
    .setMeasUnit s u (absurd rfl ·) (fun _ => rfl) (fun _ => rfl) (fun _ => rfl)

theorem measPeriod (u : Fin 2) : FieldsReadBack (.measPeriod u) 0xFFFFFFFF v s :=
  of_read_eq rfl (by simp [regRead]) fun _ =>
    .setMeasUnit s u (fun _ => rfl) (absurd rfl ·) (fun _ => rfl) (fun _ => rfl)

theorem measMin (u : Fin 2) : FieldsReadBack (.measMin u) 0xFFFFFFFF v s :=
  of_read_eq rfl (by simp [regRead]) fun _ =>
    .setMeasUnit s u (fun _ => rfl) (fun _ => rfl) (absurd rfl ·) (fun _ => rfl)

theorem measMax (u : Fin 2) : FieldsReadBack (.measMax u) 0xFFFFFFFF v s :=
  of_read_eq rfl (by simp [regRead]) fun _ =>
    .setMeasUnit s u (fun _ => rfl) (fun _ => rfl) (fun _ => rfl) (absurd rfl ·)

theorem seqTable (j : Fin 2) (e : Fin 16) : FieldsReadBack (.seqTable j e) 0xFFFFFFFF v s := by
  refine of_read_eq rfl (by simp [regRead, writeSeqTable]) fun _ => ?_
  refine .setSeqUnit s j (fun _ => rfl) (fun _ => rfl) fun y hy => ?_
  have other : e.val ≠ y.val := fun h => hy (Fin.ext h ▸ rfl)
  simp [other]

theorem tickReload : FieldsReadBack .tickReload 0x00FFFFFF v s := by
  refine ⟨_, rfl, ?_, fun plain => absurd plain (by simp [PlainWrite])⟩
  rw [regRead, writeTickReload_tickReload]
  exact zeros_append_lowField 8 24 v

theorem flags : FieldsReadBack .flags 0x0000FFFF v s :=
  ⟨_, rfl, zeros_append_lowField 16 16 v, fun _ => .setFlags s _⟩

theorem lineDebounce (i : Fin 4) : FieldsReadBack (.lineDebounce i) 0x0000FFFF v s := by
  refine ⟨_, rfl, ?_, fun _ => .setLine s i (absurd rfl ·) (fun _ => rfl) (fun _ => rfl)⟩
  rw [regRead, State.line_setLine_same]
  exact zeros_append_lowField 16 16 v

theorem tickCtrl : FieldsReadBack .tickCtrl 0x00000007 v s := by
  refine ⟨_, rfl, ?_, fun plain => absurd plain (by simp [PlainWrite])⟩
  rw [regRead, writeTickCtrl_tickCtrl]
  exact TickCtrl.word_ofWord v

theorem taskCtrl (k : Fin 4) : FieldsReadBack (.taskCtrl k) 0x000001FF v s := by
  refine ⟨_, rfl, ?_, fun plain => absurd plain (by simp [PlainWrite])⟩
  rw [regRead, writeTaskCtrl_ctrl]
  exact TaskCtrl.word_ofWord v

theorem lineCtrl (i : Fin 4) : FieldsReadBack (.lineCtrl i) 0x0000031F v s := by
  refine ⟨_, rfl, ?_, fun plain => absurd plain (by simp [PlainWrite])⟩
  rw [regRead, writeLineCtrl_ctrl]
  exact LineCtrl.word_ofWord v

theorem seqCtrl (j : Fin 2) : FieldsReadBack (.seqCtrl j) 0x0000071F v s := by
  refine ⟨_, rfl, ?_, fun _ => .setSeqUnit s j (absurd rfl ·) (fun _ => rfl) (fun _ _ => rfl)⟩
  rw [regRead, writeSeqCtrl, State.seqUnit_setSeqUnit_same]
  exact seqCtrlWord_of_fields _ v

theorem seqCur (j : Fin 2) : FieldsReadBack (.seqCur j) 0x0000000F v s := by
  refine ⟨_, rfl, ?_, fun _ => .setSeqUnit s j (fun _ => rfl) (absurd rfl ·) (fun _ _ => rfl)⟩
  rw [regRead, State.seqUnit_setSeqUnit_same]
  exact zeros_append_lowField 28 4 v

end FieldsReadBack

/-- Settles O28: the bus access of a permitted write, the window at a register's offset, and the read-back of every RW
register that stores its data. -/
theorem readAfterWriteGivesFields : Obligations.ReadAfterWriteGivesFields := by
  unfold Obligations.ReadAfterWriteGivesFields
  refine ⟨fun q s hsize haddr hw => busAccess_write ((permitted_iff q).2 ⟨hsize, haddr⟩) hw s,
    fun r v s => ⟨windowWrite_offset r v s, windowRead_offset r s⟩, fun v s r fieldBits h => ?_⟩
  change FieldsReadBack r fieldBits v s
  obtain ⟨rfl, word⟩ | ⟨rfl, rfl⟩ | ⟨rfl, half⟩ | ⟨rfl, rfl⟩ | ⟨rfl, k, rfl⟩ | ⟨rfl, i, rfl⟩ | ⟨rfl, j, rfl⟩ |
    ⟨rfl, j, rfl⟩ := h
  · obtain rfl | rfl | rfl | ⟨c, rfl⟩ | ⟨m, rfl⟩ | ⟨k, rfl⟩ | ⟨k, rfl⟩ | ⟨i, rfl⟩ | ⟨i, rfl⟩ | ⟨u, rfl⟩ | ⟨u, rfl⟩ |
      ⟨u, rfl⟩ | ⟨u, rfl⟩ | ⟨j, e, rfl⟩ := word
    · exact .ticks v s
    · exact .ovrCnt v s
    · exact .out v s
    · exact .cnt v s c
    · exact .mask v s m
    · exact .taskReload v s k
    · exact .taskAction v s k
    · exact .lineAct0 v s i
    · exact .lineAct1 v s i
    · exact .measAcc v s u
    · exact .measPeriod v s u
    · exact .measMin v s u
    · exact .measMax v s u
    · exact .seqTable v s j e
  · exact .tickReload v s
  · obtain rfl | ⟨i, rfl⟩ := half
    · exact .flags v s
    · exact .lineDebounce v s i
  · exact .tickCtrl v s
  · exact .taskCtrl v s k
  · exact .lineCtrl v s i
  · exact .seqCtrl v s j
  · exact .seqCur v s j

end Sys2Proof.Machine

/-! Action words and their instructions (R101 to R106): the table of operation codes, the terms it builds, and the checks
of `decode` for a word of a known operation code. -/

namespace Sys2Proof

theorem Opcode.ofNumber_eq_none_iff (n : BitVec 5) : Opcode.ofNumber n.toNat = none ↔ 0x19 ≤ n.toNat := by
  revert n
  decide

@[simp] theorem Opcode.opcode_build (o : Opcode) (sel : BitVec 3) (imm : Half) : (o.build sel imm).opcode = o := by
  cases o <;> rfl

/-- A built term shows the SEL it was built with, when it is 0 for an operation code without a target (R101). -/
theorem Opcode.sel_build {o : Opcode} {sel : BitVec 3} (h : o.kind = .none → sel = 0) (imm : Half) :
    (o.build sel imm).sel = sel := by
  cases o with
  | nop | flagSet | flagClr | flagTgl | flagLd | tickClr => exact (h rfl).symm
  | _ => rfl

/-- A built term shows the IMM it was built with, when it is 0 for an operation code without an immediate (R101). -/
theorem Opcode.imm_build {o : Opcode} {imm : Half} (h : o.takesImm = false → imm = 0) (sel : BitVec 3) :
    (o.build sel imm).imm = imm := by
  cases o with
  | flagSet | flagClr | flagTgl | flagLd | cntAdd | cntSub | cntLd | cntIncw | cntDecw | seqShow | seqSetc | taskSetc =>
    rfl
  | _ => exact (h rfl).symm

@[simp] theorem Instr.build_fields (i : Instr) : i.opcode.build i.sel i.imm = i := by
  cases i <;> rfl

theorem Instr.sel_of_noTarget {i : Instr} (h : i.opcode.kind = .none) : i.sel = 0 := by
  cases i with
  | nop | flagSet | flagClr | flagTgl | flagLd | tickClr => rfl
  | _ => cases h

theorem Instr.imm_of_noImm {i : Instr} (h : i.opcode.takesImm = false) : i.imm = 0 := by
  cases i with
  | flagSet | flagClr | flagTgl | flagLd | cntAdd | cntSub | cntLd | cntIncw | cntDecw | seqShow | seqSetc | taskSetc =>
    cases h
  | _ => rfl

/-- Well-formed is: SEL is below the range of the target's kind (R103), which leaves 0 alone where there is no target. -/
theorem wellFormed_iff (i : Instr) : WellFormed i = true ↔ i.sel.toNat < i.opcode.kind.range := by
  cases i with
  | nop | flagSet | flagClr | flagTgl | flagLd | tickClr => exact iff_of_true rfl (Nat.zero_lt_one)
  | _ => exact decide_eq_true_iff

/-- The checks of R105 after BADOP, in their order. -/
theorem decode_of_opField {w : Word} {o : Opcode} (h : opField w = o.number) :
    decode w =
      if rsvField w ≠ 0 then .error .badFmt
      else if o.kind = .none ∧ selField w ≠ 0 then .error .badFmt
      else if o.takesImm = false ∧ immField w ≠ 0 then .error .badFmt
      else if o.kind.range ≤ (selField w).toNat then .error .badIdx
      else .ok (o.build (selField w) (immField w)) := by
  unfold decode
  rw [h, Opcode.ofNumber_number]

theorem decode_of_reserved {w : Word} (h : 0x19 ≤ (opField w).toNat) : decode w = .error .badOp := by
  unfold decode
  rw [(Opcode.ofNumber_eq_none_iff _).2 h]

/-- The fields a word of operation code `o` may have (R101, R103). -/
structure LegalFields (o : Opcode) (w : Word) : Prop where
  op : opField w = o.number
  rsv : rsvField w = 0
  sel : o.kind = .none → selField w = 0
  imm : o.takesImm = false → immField w = 0
  range : (selField w).toNat < o.kind.range

theorem decode_of_legalFields {o : Opcode} {w : Word} (h : LegalFields o w) :
    decode w = .ok (o.build (selField w) (immField w)) := by
  rw [decode_of_opField h.op, if_neg (not_not.2 h.rsv), if_neg fun c => c.2 (h.sel c.1),
    if_neg fun c => c.2 (h.imm c.1), if_neg (not_le.2 h.range)]

/-- Everything a word that decodes has: the legal fields of its instruction's operation code, and these are the
instruction's. -/
theorem fields_of_decode {w : Word} {i : Instr} (h : decode w = .ok i) :
    LegalFields i.opcode w ∧ selField w = i.sel ∧ immField w = i.imm := by
  obtain ⟨o, hop, rsv, sel, imm, range, rfl⟩ := decode_ok_cases w i h
  rw [Opcode.opcode_build, Opcode.sel_build sel, Opcode.imm_build imm]
  exact ⟨⟨(Opcode.number_of_ofNumber _ _ hop).symm, rsv, sel, imm, range⟩, rfl, rfl⟩

theorem legalFields_encode {i : Instr} (h : WellFormed i = true) : LegalFields i.opcode (encode i) where
  op := opField_encode i
  rsv := rsvField_encode i
  sel hk := (selField_encode i).trans (Instr.sel_of_noTarget hk)
  imm hk := (immField_encode i).trans (Instr.imm_of_noImm hk)
  range := by rw [selField_encode]; exact (wellFormed_iff i).1 h

/-- Settles O1: the word of a well-formed instruction has legal fields, and a term is built from its own fields. -/
theorem decodeOfEncode : Obligations.DecodeOfEncode := by
  unfold Obligations.DecodeOfEncode
  intro i h
  rw [decode_of_legalFields (legalFields_encode h), selField_encode, immField_encode, Instr.build_fields]

/-- Settles O2: a word is its four fields, and those of a word that decodes are its instruction's. -/
theorem encodeOfDecode : Obligations.EncodeOfDecode := by
  unfold Obligations.EncodeOfDecode
  intro w i h
  obtain ⟨legal, sel, imm⟩ := fields_of_decode h
  refine ⟨(wellFormed_iff i).2 (sel ▸ legal.range), ?_⟩
  calc encode i = opField w ++ selField w ++ rsvField w ++ immField w := by
        rw [legal.op, legal.rsv, sel, imm]; rfl
    _ = w := word_of_fields w

/-! The rows of R104 field by field. -/

theorem word_ext_iff (v w : Word) :
    v = w ↔ opField v = opField w ∧ selField v = selField w ∧ rsvField v = rsvField w ∧ immField v = immField w := by
  refine ⟨fun h => h ▸ ⟨rfl, rfl, rfl, rfl⟩, fun ⟨op, sel, rsv, imm⟩ => ?_⟩
  rw [← word_of_fields v, op, sel, rsv, imm, word_of_fields]

theorem opField_and (v w : Word) : opField (v &&& w) = opField v &&& opField w := BitVec.extractLsb'_and

theorem selField_and (v w : Word) : selField (v &&& w) = selField v &&& selField w := BitVec.extractLsb'_and

theorem rsvField_and (v w : Word) : rsvField (v &&& w) = rsvField v &&& rsvField w := BitVec.extractLsb'_and

theorem immField_and (v w : Word) : immField (v &&& w) = immField v &&& immField w := BitVec.extractLsb'_and

/-- The match word is the operation code over zeros (R104). -/
theorem Opcode.matchWord_fields (o : Opcode) :
    opField o.matchWord = o.number ∧ selField o.matchWord = 0 ∧ rsvField o.matchWord = 0 ∧
      immField o.matchWord = 0 := by
  cases o <;> decide

/-- The mask covers OP and RSV, SEL where there is no target and IMM where there is no immediate (R104). -/
theorem Opcode.maskWord_fields (o : Opcode) :
    opField o.maskWord = BitVec.allOnes 5 ∧
      selField o.maskWord = (if o.kind = .none then BitVec.allOnes 3 else 0) ∧
      rsvField o.maskWord = BitVec.allOnes 8 ∧
      immField o.maskWord = (if o.takesImm = false then BitVec.allOnes 16 else 0) := by
  cases o <;> decide

theorem and_ite_allOnes_eq_zero_iff {n : Nat} (p : Prop) [Decidable p] (v : BitVec n) :
    v &&& (if p then BitVec.allOnes n else 0) = 0 ↔ (p → v = 0) := by
  by_cases h : p <;> simp [h]

/-- A word matches its row exactly when its fields are as the row's operation code allows (R104). -/
theorem matches_row_iff (w : Word) (o : Opcode) :
    w &&& o.maskWord = o.matchWord ↔
      opField w = o.number ∧ (o.kind = .none → selField w = 0) ∧ rsvField w = 0 ∧
        (o.takesImm = false → immField w = 0) := by
  obtain ⟨matchOp, matchSel, matchRsv, matchImm⟩ := o.matchWord_fields
  obtain ⟨maskOp, maskSel, maskRsv, maskImm⟩ := o.maskWord_fields
  rw [word_ext_iff, opField_and, selField_and, rsvField_and, immField_and, matchOp, matchSel, matchRsv, matchImm, maskOp,
    maskSel, maskRsv, maskImm, BitVec.and_allOnes, BitVec.and_allOnes, and_ite_allOnes_eq_zero_iff,
    and_ite_allOnes_eq_zero_iff]

/-- Settles O3: both sides say that the word's fields are legal for the operation code. -/
theorem decodeMatchesTableRows : Obligations.DecodeMatchesTableRows := by
  unfold Obligations.DecodeMatchesTableRows
  intro w o
  rw [matches_row_iff]
  constructor
  · rintro ⟨i, h, rfl⟩
    obtain ⟨legal, -, -⟩ := fields_of_decode h
    exact ⟨⟨legal.op, legal.sel, legal.rsv, legal.imm⟩, legal.range⟩
  · rintro ⟨⟨op, sel, rsv, imm⟩, range⟩
    exact ⟨_, decode_of_legalFields ⟨op, rsv, sel, imm, range⟩, Opcode.opcode_build ..⟩

/-! The columns of R104 by the operation code's number. -/

theorem Opcode.number_lt (o : Opcode) : o.number.toNat < 0x19 := by
  cases o <;> decide

theorem Opcode.noTarget_iff (o : Opcode) : o.kind = .none ↔ o.number.toNat ≤ 0x04 ∨ o.number.toNat = 0x16 := by
  cases o <;> decide

theorem Opcode.takesImm_iff (o : Opcode) :
    o.takesImm = true ↔
      (0x01 ≤ o.number.toNat ∧ o.number.toNat ≤ 0x09) ∨ o.number.toNat = 0x10 ∨ o.number.toNat = 0x11 ∨
        o.number.toNat = 0x13 := by
  cases o <;> decide

theorem Opcode.range_of_target (o : Opcode) (h : o.kind ≠ .none) :
    o.kind.range =
      if o.number.toNat ≤ 0x09 then 4 else if o.number.toNat ≤ 0x0C then 8 else if o.number.toNat ≤ 0x11 then 2
      else if o.number.toNat ≤ 0x15 then 4 else 2 := by
  revert h
  cases o <;> decide

theorem ne_zero_iff_toNat {n : Nat} (v : BitVec n) : v ≠ 0 ↔ v.toNat ≠ 0 := not_congr BitVec.toNat_inj.symm

/-- Where SEL has passed the format check, the range check of the table's kind is the one by number: without a target SEL
is 0, which every range allows. -/
theorem Opcode.range_le_iff (o : Opcode) {sel : Nat} (h : o.kind = .none → sel = 0) :
    o.kind.range ≤ sel ↔
      (if o.number.toNat ≤ 0x09 then 4 else if o.number.toNat ≤ 0x0C then 8 else if o.number.toNat ≤ 0x11 then 2
        else if o.number.toNat ≤ 0x15 then 4 else 2) ≤ sel := by
  by_cases hk : o.kind = .none
  · rw [hk, h hk]
    split_ifs <;> decide
  · rw [o.range_of_target hk]

/-- Settles O4: for a word of a known operation code the conditions on numbers are those of `decode`, one by one. -/
theorem decodeChecksInOrder : Obligations.DecodeChecksInOrder := by
  unfold Obligations.DecodeChecksInOrder
  intro w
  have sel_eq : w.toNat / 2 ^ 24 % 8 = (selField w).toNat := (selField_toNat w).symm
  have rsv_eq : w.toNat / 2 ^ 16 % 256 = (rsvField w).toNat := (rsvField_toNat w).symm
  rw [← opField_toNat, sel_eq, rsv_eq, ← immField_toNat]
  by_cases reserved : 0x19 ≤ (opField w).toNat
  · simp only [if_pos reserved]
    exact decode_of_reserved reserved
  simp only [if_neg reserved]
  obtain ⟨o, ho⟩ := Option.ne_none_iff_exists'.1 fun h => reserved ((Opcode.ofNumber_eq_none_iff (opField w)).1 h)
  have number : o.number = opField w := Opcode.number_of_ofNumber _ _ ho
  rw [decode_of_opField number.symm, ← number]
  simp only [← o.noTarget_iff, ← o.takesImm_iff, Bool.not_eq_true, ← ne_zero_iff_toNat]
  by_cases rsv : rsvField w ≠ 0
  · simp only [if_pos rsv]
  by_cases sel : o.kind = .none ∧ selField w ≠ 0
  · simp only [if_neg rsv, if_pos sel]
  by_cases imm : o.takesImm = false ∧ immField w ≠ 0
  · simp only [if_neg rsv, if_neg sel, if_pos imm]
  simp only [if_neg rsv, if_neg sel, if_neg imm]
  have sel_zero (hk : o.kind = .none) : selField w = 0 := not_not.1 fun h => sel ⟨hk, h⟩
  have imm_zero (ht : o.takesImm = false) : immField w = 0 := not_not.1 fun h => imm ⟨ht, h⟩
  simp only [← o.range_le_iff fun hk => congrArg BitVec.toNat (sel_zero hk)]
  by_cases range : o.kind.range ≤ (selField w).toNat
  · simp only [if_pos range]
  · simp only [if_neg range]
    exact ⟨_, rfl, by rw [Opcode.opcode_build], by rw [Opcode.sel_build sel_zero], by rw [Opcode.imm_build imm_zero]⟩

/-- Settles O5: the words are those of well-formed instructions. -/
theorem specWordsDecode : Obligations.SpecWordsDecode := by
  unfold Obligations.SpecWordsDecode
  exact ⟨decodeOfEncode (.cntAdd 0 1) rfl, decodeOfEncode (.outTgl 2) rfl, decodeOfEncode (.seqShow 1 11) rfl,
    decodeOfEncode (.taskRst 0) rfl, decodeOfEncode (.flagTgl 1) rfl, decodeOfEncode (.measCap 0) rfl,
    decodeOfEncode .tickClr rfl, decodeOfEncode .nop rfl⟩

end Sys2Proof

/-! A term whose SEL is out of range has no target (R103, R106). -/

namespace Sys2Proof.Machine

theorem counterSel_of_le {sel : BitVec 3} (h : 4 ≤ sel.toNat) : counterSel sel = none := dif_neg (not_lt.2 h)

theorem seqSel_of_le {sel : BitVec 3} (h : 2 ≤ sel.toNat) : seqSel sel = none := dif_neg (not_lt.2 h)

theorem taskSel_of_le {sel : BitVec 3} (h : 4 ≤ sel.toNat) : taskSel sel = none := dif_neg (not_lt.2 h)

theorem measSel_of_le {sel : BitVec 3} (h : 2 ≤ sel.toNat) : measSel sel = none := dif_neg (not_lt.2 h)

theorem onTarget_of_none {α : Type} {target : Option α} (h : target = none) (i : Instr) (s : State) (f : α → State) :
    onTarget i target s f = .next (raiseByAction .badIdx i s) := by
  rw [h]
  rfl

/-- Settles O16: an ill-formed term has a SEL above the range of its kind, so the shell it runs in finds no target. -/
theorem outOfRangeTargetIsBadIdx : Obligations.OutOfRangeTargetIsBadIdx := by
  unfold Obligations.OutOfRangeTargetIsBadIdx
  intro i s h
  have outside : i.opcode.kind.range ≤ i.sel.toNat := by
    rw [← not_lt, ← wellFormed_iff, h]
    exact Bool.false_ne_true
  cases i with
  | nop | flagSet | flagClr | flagTgl | flagLd | tickClr => cases h
  | cntAdd | cntSub | cntLd | cntIncw | cntDecw => exact onTarget_of_none (counterSel_of_le outside) ..
  | outSet sel | outClr sel | outTgl sel => exact absurd sel.isLt (not_lt.2 outside)
  | seqAdv | seqStep | seqOvr | seqShow | seqSetc => exact onTarget_of_none (seqSel_of_le outside) ..
  | taskRst | taskSetc | taskEn | taskDis => exact onTarget_of_none (taskSel_of_le outside) ..
  | measCap | measClr => exact onTarget_of_none (measSel_of_le outside) ..

end Sys2Proof.Machine

/-! Two runs of an action under two requesters' names (R108). -/

namespace Sys2Proof.Machine

/-- The states agree but for the requester's name and ERR_CODE. -/
def SameButName (t t' : State) : Prop := (t.setErrCode t'.errCode).setRequester t'.requester = t'

/-- The name an error is raised in shows in ERR_CODE alone (R30, R322). -/
theorem raiseError_sameButCode (code : ErrCause) (src src' : Source) (idx idx' : Fin 4) (info : Word) (s : State) :
    (raiseError code src idx info s).setErrCode (raiseError code src' idx' info s).errCode =
      raiseError code src' idx' info s := by
  unfold raiseError
  split <;> rfl

theorem raiseError_setRequester (code : ErrCause) (src : Source) (idx : Fin 4) (info : Word) (s : State)
    (q : Requester) :
    raiseError code src idx info (s.setRequester q) = (raiseError code src idx info s).setRequester q := by
  unfold raiseError
  rw [State.setRequester_pend]
  split <;> rfl

theorem raiseByAction_sameButName (code : ErrCause) (i : Instr) (q q' : Requester) (s : State) :
    SameButName (raiseByAction code i (s.setRequester q)) (raiseByAction code i (s.setRequester q')) := by
  unfold raiseByAction
  rw [raiseError_setRequester, raiseError_setRequester]
  have named := raiseError_sameButCode code q.src q'.src q.idx q'.idx (encode i) s
  exact (congrArg (State.setRequester · q') named :)

theorem onTarget_sameButName {α : Type} {i : Instr} {target : Option α} {s t t' : State} {q q' : Requester}
    {f f' : α → State} (h : onTarget i target (s.setRequester q) f = .next t)
    (h' : onTarget i target (s.setRequester q') f' = .next t') (hf : ∀ a, SameButName (f a) (f' a)) :
    SameButName t t' := by
  cases target with
  | none => cases h; cases h'; exact raiseByAction_sameButName ..
  | some a => cases h; cases h'; exact hf a

theorem onSeqUnit_sameButName {i : Instr} {sel : BitVec 3} {s t t' : State} {q q' : Requester}
    {f f' : Fin 2 → State} (h : onSeqUnit i sel (s.setRequester q) f = .next t)
    (h' : onSeqUnit i sel (s.setRequester q') f' = .next t') (hf : ∀ j, SameButName (f j) (f' j)) :
    SameButName t t' := by
  refine onTarget_sameButName h h' fun j => ?_
  have legal : lenLegal (s.setRequester q) j = lenLegal (s.setRequester q') j := rfl
  rw [legal]
  split
  · exact hf j
  · exact raiseByAction_sameButName ..

/-- Executing an action under two names gives the same state but for ERR_CODE: no meaning reads the name, and an error
shows it in ERR_CODE. -/
theorem exec_sameButName {i : Instr} {s t t' : State} {q q' : Requester} (h : exec i (s.setRequester q) = .next t)
    (h' : exec i (s.setRequester q') = .next t') : SameButName t t' := by
  cases i with
  | nop | flagSet | flagClr | flagTgl | flagLd | tickClr => cases h; cases h'; rfl
  | cntAdd | cntSub | cntLd | cntIncw | cntDecw => exact onTarget_sameButName h h' fun _ => rfl
  | outSet | outClr | outTgl => exact onTarget_sameButName h h' fun _ => rfl
  | seqAdv | seqStep | seqOvr | seqShow | seqSetc => exact onSeqUnit_sameButName h h' fun _ => rfl
  | taskRst | taskSetc | taskEn | taskDis => exact onTarget_sameButName h h' fun _ => rfl
  | measCap | measClr => exact onTarget_sameButName h h' fun _ => rfl

theorem execWord_of_error {w : Word} {e : DecodeError} (h : decode w = .error e) (src : Source) (idx : Fin 4)
    (s : State) : execWord w src idx s = .next (raiseError (decodeCause e) src idx w s) := by
  unfold execWord
  rw [h]

theorem execWord_of_ok {w : Word} {i : Instr} (h : decode w = .ok i) (src : Source) (idx : Fin 4) (s : State) :
    execWord w src idx s = asRequester src idx (exec i) s := by
  unfold execWord
  rw [h]

/-- Settles O21: a rejected word raises its error under the name, an action runs under it, and the old name is put
back. -/
theorem requesterShowsOnlyInErrorCode : Obligations.RequesterShowsOnlyInErrorCode := by
  unfold Obligations.RequesterShowsOnlyInErrorCode
  intro w src src' idx idx' s t t' h h'
  cases hd : decode w with
  | error e =>
    rw [execWord_of_error hd] at h h'
    cases h
    cases h'
    exact raiseError_sameButCode ..
  | ok i =>
    rw [execWord_of_ok hd] at h h'
    obtain ⟨u, hu, back⟩ := (andThen_eq_next ..).1 h
    obtain ⟨u', hu', back'⟩ := (andThen_eq_next ..).1 h'
    cases back
    cases back'
    exact congrArg (State.setRequester · s.requester) (exec_sameButName hu hu')

end Sys2Proof.Machine

/-! What a step answers for a listed input: the block's step on that input, with a reset or with the four phases (R131,
R132). -/

namespace Sys2Proof.Machine

theorem andThen_andThen (r : Result) (f g : State → Result) :
    andThen (andThen r f) g = andThen r fun s => andThen (f s) g := by
  cases r <;> rfl

theorem step_of_inputs_cons {s : State} {i : Input} {rest : List Input} (h : s.inputs = i :: rest) :
    step s = blockStep i { s with inputs := rest, time := s.time + 1 } := by
  unfold step State.nextInput State.takeInput
  rw [h]
  rfl

theorem blockStep_of_reset {i : Input} (h : i.rst = true) (s : State) : blockStep i s = .next s.toReset := if_pos h

theorem blockStep_of_noReset {i : Input} (h : i.rst = false) (s : State) :
    blockStep i s = andThen (busAccess i.req s) (afterBus i.pins s.lines) :=
  if_neg (Bool.eq_false_iff.1 h)

theorem afterBus_of_noTick {s u : State} (h : tickCount s = (false, u)) (pins : BitVec 4) (start : Vector Line 4) :
    afterBus pins start s = linePhase pins false start u := by
  unfold afterBus
  rw [h]
  exact andThen_next ..

theorem afterBus_of_tick {s u : State} (h : tickCount s = (true, u)) (pins : BitVec 4) (start : Vector Line 4) :
    afterBus pins start s = andThen (tickPhase u) (linePhase pins true start) := by
  unfold afterBus
  rw [h]
  rfl

/-- The request that writes a word to CMD (R310). -/
def cmdRequest (w : Word) : BusRequest := { write := true, addr := 0x028, size := .word, wdata := w }

/-- A CMD write of a word that decodes runs its instruction in CMD's name, and answers as any write (R75, R310). -/
theorem busAccess_cmdRequest {w : Word} {i : Instr} (h : decode w = .ok i) (s : State) :
    busAccess (some (cmdRequest w)) s =
      andThen (asRequester .cmd 0 (exec i) s) fun t => .next (t.setRsp { rdata := 0, error := false }) := by
  have permit : permitted (cmdRequest w) = true := by simp [permitted, cmdRequest]
  have write : windowWrite 0x028 w s = execWord w .cmd 0 s := windowWrite_offset .cmd w s
  calc busAccess (some (cmdRequest w)) s
      = andThen (windowWrite 0x028 w s) fun t => .next (t.setRsp { rdata := 0, error := false }) :=
        busAccess_write permit rfl s
    _ = _ := by rw [write, execWord_of_ok h]

/-- Settles O47: a step without a reset is the bus access and phases 2 to 4, and the access of a CMD write runs the
decoded instruction. -/
theorem stepRunsCommandWord : Obligations.StepRunsCommandWord := by
  unfold Obligations.StepRunsCommandWord
  refine ⟨fun s h => blockStep_of_noReset h s.takeInput,
    fun pins start s u => ⟨fun h => afterBus_of_noTick h pins start, fun h => afterBus_of_tick h pins start⟩,
    fun s w i pins rest hw hs => ?_⟩
  have access := busAccess_cmdRequest hw { s with inputs := rest, time := s.time + 1 }
  unfold asRequester at access
  rw [andThen_andThen] at access
  rw [step_of_inputs_cons hs, blockStep_of_noReset rfl]
  exact (congrArg (andThen · (afterBus pins s.lines)) access).trans (andThen_andThen ..)

/-- Settles O49: a reset takes the input and sets the block to ResetState. -/
theorem resetStepGivesResetState : Obligations.ResetStepGivesResetState := by
  unfold Obligations.ResetStepGivesResetState
  exact fun s h => blockStep_of_reset h s.takeInput

end Sys2Proof.Machine

/-! Every part of a step completes (R138), down to the actions it executes. -/

namespace Sys2Proof.Machine

/-- `f` answers a next state in every state. -/
def Completes (f : State → Result) : Prop := ∀ s, ∃ t, f s = .next t

theorem andThen_completes {r : Result} {f : State → Result} (hr : ∃ s, r = .next s) (hf : Completes f) :
    ∃ t, andThen r f = .next t := by
  obtain ⟨s, rfl⟩ := hr
  exact hf s

theorem Completes.forEach {α : Type} {f : α → State → Result} (l : List α) (hf : ∀ a, Completes (f a)) :
    Completes (forEach l f) := by
  induction l with
  | nil => exact fun s => ⟨s, rfl⟩
  | cons a l ih => exact fun s => andThen_completes (hf a s) ih

theorem execWord_completes (w : Word) (src : Source) (idx : Fin 4) : Completes (execWord w src idx) := by
  intro s
  obtain ⟨_, -, e⟩ | ⟨i, -, e⟩ := execWord_cases w src idx s
  · exact ⟨_, e⟩
  · rw [e]
    exact andThen_completes (everyActionCompletes i _) fun _ => ⟨_, rfl⟩

theorem fire_completes (k : Fin 4) : Completes (fire k) := by
  intro s
  obtain ⟨-, e⟩ | ⟨-, e⟩ := fire_cases k s
  · exact ⟨_, e⟩
  · rw [e]
    exact execWord_completes ..

theorem evalCountdown_completes (k : Fin 4) : Completes (evalCountdown k) := by
  intro s
  unfold evalCountdown
  split
  next => exact andThen_completes (fire_completes k s) fun _ => ⟨_, rfl⟩
  next => exact ⟨_, rfl⟩

theorem evalTrack_completes (k : Fin 4) : Completes (evalTrack k) := by
  intro s
  unfold evalTrack
  split
  next => exact andThen_completes (fire_completes k s) fun _ => ⟨_, rfl⟩
  next => exact ⟨_, rfl⟩

theorem evalTask_completes (k : Fin 4) : Completes (evalTask k) := by
  intro s
  obtain ⟨-, e⟩ | ⟨-, -, e⟩ | ⟨-, -, e⟩ := evalTask_cases k s <;> rw [e]
  · exact ⟨_, rfl⟩
  · exact evalTrack_completes k s
  · exact evalCountdown_completes k s

theorem tickPhase_completes : Completes tickPhase := by
  intro s
  obtain ⟨-, e⟩ | ⟨-, e⟩ := tickPhase_cases s <;> rw [e]
  · exact Completes.forEach _ evalTask_completes _
  · exact ⟨_, rfl⟩

theorem lineActions_completes (i : Fin 4) : Completes (lineActions i) :=
  fun s => andThen_completes (execWord_completes _ _ _ s) fun _ => execWord_completes ..

theorem linePhase_completes (pins : BitVec 4) (tick : Bool) (start : Vector Line 4) :
    Completes (linePhase pins tick start) := by
  intro s
  refine Completes.forEach _ (fun i t => ?_) _
  split
  next => exact lineActions_completes i t
  next => exact ⟨_, rfl⟩

theorem afterBus_completes (pins : BitVec 4) (start : Vector Line 4) : Completes (afterBus pins start) := by
  intro s
  obtain ⟨-, e⟩ | ⟨-, e⟩ := afterBus_cases pins start s <;> rw [e]
  · exact linePhase_completes ..
  · exact andThen_completes (tickPhase_completes _) (linePhase_completes _ _ _)

/-- Every register write completes: only a CMD write is more than one update. -/
theorem regWrite_completes (r : Reg) (v : Word) : Completes (regWrite r v) := by
  intro s
  cases r with
  | cmd => exact execWord_completes ..
  | _ => exact ⟨_, rfl⟩

theorem windowWrite_completes (a : Nat) (v : Word) : Completes (windowWrite a v) := by
  intro s
  unfold windowWrite
  split
  next => exact ⟨_, rfl⟩
  next => exact regWrite_completes ..

theorem busAccess_completes (req : Option BusRequest) : Completes (busAccess req) := by
  intro s
  obtain ⟨-, e⟩ | ⟨q, -, ⟨-, e⟩ | ⟨-, -, e⟩ | ⟨-, -, e⟩⟩ := busAccess_cases req s <;> rw [e]
  · exact ⟨_, rfl⟩
  · exact ⟨_, rfl⟩
  · exact andThen_completes (windowWrite_completes ..) fun _ => ⟨_, rfl⟩
  · exact ⟨_, rfl⟩

/-- Settles O51: a reset completes, and so do the bus access and the phases after it. -/
theorem everyStepHasSuccessor : Obligations.EveryStepHasSuccessor := by
  unfold Obligations.EveryStepHasSuccessor
  intro s
  obtain ⟨-, e⟩ | ⟨-, e⟩ := step_cases s <;> rw [e]
  · exact ⟨_, rfl⟩
  · exact andThen_completes (busAccess_completes _ _) (afterBus_completes _ _)

end Sys2Proof.Machine

/-! What actions, slots and lines neither read nor write: the coming inputs, TICKS and PEND.TICK. Each of them commutes
with every change of these, which says both at once. -/

namespace Sys2Proof.Machine

/-- The state with the coming inputs, TICKS and PEND.TICK changed. -/
def State.mapAside (inputs : List Input → List Input) (ticks : Word → Word) (tick : Bool → Bool) (s : State) : State :=
  { s with inputs := inputs s.inputs, ticks := ticks s.ticks, pend := { s.pend with tick := tick s.pend.tick } }

/-- `f` runs the same before and after the change `g` of the state. -/
def CommutesWith (g : State → State) (f : State → Result) : Prop := ∀ s t, f s = .next t → f (g s) = .next (g t)

namespace CommutesWith

variable {g : State → State}

theorem update {f : State → State} (h : ∀ s, f (g s) = g (f s)) : CommutesWith g fun s => .next (f s) := by
  intro s t ht
  cases ht
  exact congrArg Host.Outcome.next (h s)

/-- A change that commutes with an update commutes with what runs after it. -/
theorem after {f : State → Result} {u : State → State} (hf : CommutesWith g f) (hu : ∀ s, u (g s) = g (u s)) :
    CommutesWith g fun s => f (u s) :=
  fun s t h => (congrArg f (hu s)).trans (hf (u s) t h)

theorem ite {c : State → Prop} [DecidablePred c] {f f' : State → Result} (hc : ∀ s, c (g s) ↔ c s)
    (hf : CommutesWith g f) (hf' : CommutesWith g f') : CommutesWith g fun s => if c s then f s else f' s := by
  intro s t h
  by_cases hs : c s
  · exact (if_pos ((hc s).2 hs)).trans (hf s t ((if_pos hs).symm.trans h))
  · exact (if_neg (mt (hc s).1 hs)).trans (hf' s t ((if_neg hs).symm.trans h))

theorem andThen {f f' : State → Result} (hf : CommutesWith g f) (hf' : CommutesWith g f') :
    CommutesWith g fun s => andThen (f s) f' := by
  intro s t h
  obtain ⟨u, hu, ht⟩ := (andThen_eq_next ..).1 h
  exact (andThen_eq_next ..).2 ⟨g u, hf s u hu, hf' u t ht⟩

theorem forEach {α : Type} {f : α → State → Result} (l : List α) (hf : ∀ a, CommutesWith g (f a)) :
    CommutesWith g (forEach l f) := by
  induction l with
  | nil => exact update fun _ => rfl
  | cons a l ih => exact (hf a).andThen ih

/-- A change that is none before `f` is none after it. -/
theorem fixed {f : State → Result} (hf : CommutesWith g f) {s t : State} (hs : g s = s) (h : f s = .next t) :
    g t = t := by
  have moved := hf s t h
  rw [hs, h] at moved
  injection moved with same
  exact same.symm

end CommutesWith

section Aside

variable (inputs : List Input → List Input) (ticks : Word → Word) (tick : Bool → Bool)

/-! The change does not show in what slots and lines read, and it commutes with their updates. -/

@[simp] theorem State.mapAside_task (k : Fin 4) (s : State) : (s.mapAside inputs ticks tick).task k = s.task k := rfl

@[simp] theorem State.mapAside_line (i : Fin 4) (s : State) : (s.mapAside inputs ticks tick).line i = s.line i := rfl

@[simp] theorem State.mapAside_setLine (i : Fin 4) (v : Line) (s : State) :
    (s.mapAside inputs ticks tick).setLine i v = (s.setLine i v).mapAside inputs ticks tick := rfl

@[simp] theorem runsActions_mapAside (i : Fin 4) (s : State) :
    runsActions i (s.mapAside inputs ticks tick) = runsActions i s := rfl

@[simp] theorem lineOrder_mapAside (s : State) : lineOrder (s.mapAside inputs ticks tick) = lineOrder s := rfl

theorem raiseError_mapAside (code : ErrCause) (src : Source) (idx : Fin 4) (info : Word) (s : State) :
    raiseError code src idx info (s.mapAside inputs ticks tick) =
      (raiseError code src idx info s).mapAside inputs ticks tick := by
  obtain ⟨err, e⟩ | ⟨err, e⟩ := raiseError_cases code src idx info s <;> rw [e]
  · exact if_pos err
  · exact if_neg (Bool.eq_false_iff.1 err)

@[simp] theorem recordEvent_mapAside (i : Fin 4) (s : State) :
    recordEvent i (s.mapAside inputs ticks tick) = (recordEvent i s).mapAside inputs ticks tick := by
  unfold recordEvent
  rw [apply_ite (State.mapAside inputs ticks tick)]
  rfl

theorem sampleLine_mapAside (i : Fin 4) (pins : BitVec 4) (ticked : Bool) (start : Vector Line 4) (s : State) :
    sampleLine i pins ticked start (s.mapAside inputs ticks tick) =
      ((sampleLine i pins ticked start s).1, (sampleLine i pins ticked start s).2.mapAside inputs ticks tick) := by
  simp only [sampleLine, State.mapAside_line, State.mapAside_setLine, runsActions_mapAside, recordEvent_mapAside]
  split <;> rfl

theorem lineSample_mapAside (pins : BitVec 4) (ticked : Bool) (start : Vector Line 4) (s : State) :
    lineSample pins ticked start (s.mapAside inputs ticks tick) =
      ((lineSample pins ticked start s).1, (lineSample pins ticked start s).2.mapAside inputs ticks tick) := by
  simp only [lineSample, sampleLine_mapAside]

variable {inputs ticks tick}

/-! The parts of a step that answer a result: `f'` is an action's effect as it reads the changed state. -/

theorem onTarget_mapAside {α : Type} {i : Instr} {target : Option α} {s t : State} {f f' : α → State}
    (h : onTarget i target s f = .next t) (hf : ∀ a, f' a = (f a).mapAside inputs ticks tick) :
    onTarget i target (s.mapAside inputs ticks tick) f' = .next (t.mapAside inputs ticks tick) := by
  cases target with
  | none => cases h; exact congrArg Host.Outcome.next (raiseError_mapAside ..)
  | some a => cases h; exact congrArg Host.Outcome.next (hf a)

theorem onSeqUnit_mapAside {i : Instr} {sel : BitVec 3} {s t : State} {f f' : Fin 2 → State}
    (h : onSeqUnit i sel s f = .next t) (hf : ∀ j, f' j = (f j).mapAside inputs ticks tick) :
    onSeqUnit i sel (s.mapAside inputs ticks tick) f' = .next (t.mapAside inputs ticks tick) := by
  refine onTarget_mapAside h fun j => ?_
  have legal : lenLegal (s.mapAside inputs ticks tick) j = lenLegal s j := rfl
  rw [legal]
  split
  · exact hf j
  · exact raiseError_mapAside ..

theorem exec_commutes (i : Instr) : CommutesWith (State.mapAside inputs ticks tick) (exec i) := by
  intro s t h
  cases i with
  | nop | flagSet | flagClr | flagTgl | flagLd | tickClr => cases h; rfl
  | cntAdd | cntSub | cntLd | cntIncw | cntDecw => exact onTarget_mapAside h fun _ => rfl
  | outSet | outClr | outTgl => exact onTarget_mapAside h fun _ => rfl
  | seqAdv | seqStep | seqOvr | seqShow | seqSetc => exact onSeqUnit_mapAside h fun _ => rfl
  | taskRst | taskSetc | taskEn | taskDis => exact onTarget_mapAside h fun _ => rfl
  | measCap | measClr => exact onTarget_mapAside h fun _ => rfl

theorem execWord_commutes (w : Word) (src : Source) (idx : Fin 4) :
    CommutesWith (State.mapAside inputs ticks tick) (execWord w src idx) := by
  cases hw : decode w with
  | error e =>
    rw [funext (execWord_of_error hw src idx)]
    exact .update fun _ => raiseError_mapAside ..
  | ok i =>
    rw [funext (execWord_of_ok hw src idx)]
    intro s t h
    obtain ⟨u, hu, back⟩ := (andThen_eq_next ..).1 h
    cases back
    exact (andThen_eq_next ..).2 ⟨_, exec_commutes i _ u hu, rfl⟩

theorem fire_commutes (k : Fin 4) : CommutesWith (State.mapAside inputs ticks tick) (fire k) := by
  have body : CommutesWith (State.mapAside inputs ticks tick)
      fun s => execWord (s.task k).action .task k (pendTask s k) :=
    fun s => execWord_commutes (s.task k).action .task k (pendTask s k)
  exact .ite (fun _ => Iff.rfl) body (.update fun _ => rfl)

theorem evalCountdown_commutes (k : Fin 4) : CommutesWith (State.mapAside inputs ticks tick) (evalCountdown k) :=
  .ite (fun _ => Iff.rfl) ((fire_commutes k).andThen (.update fun _ => rfl)) (.update fun _ => rfl)

theorem evalTrack_commutes (k : Fin 4) : CommutesWith (State.mapAside inputs ticks tick) (evalTrack k) :=
  .ite (fun _ => Iff.rfl) ((fire_commutes k).andThen (.update fun _ => rfl)) (.update fun _ => rfl)

theorem evalTask_commutes (k : Fin 4) : CommutesWith (State.mapAside inputs ticks tick) (evalTask k) := by
  refine .ite (fun _ => Iff.rfl) (.update fun _ => rfl) fun s t h => ?_
  rw [State.mapAside_task]
  cases hm : (s.task k).ctrl.mode with
  | countdown => rw [hm] at h; exact evalCountdown_commutes k s t h
  | track => rw [hm] at h; exact evalTrack_commutes k s t h

theorem lineActions_commutes (i : Fin 4) : CommutesWith (State.mapAside inputs ticks tick) (lineActions i) := by
  have first : CommutesWith (State.mapAside inputs ticks tick) fun s => execWord (s.line i).act0 .line0 i s :=
    fun s => execWord_commutes (s.line i).act0 .line0 i s
  have second : CommutesWith (State.mapAside inputs ticks tick) fun s => execWord (s.line i).act1 .line1 i s :=
    fun s => execWord_commutes (s.line i).act1 .line1 i s
  exact first.andThen second

theorem linePhase_commutes (pins : BitVec 4) (ticked : Bool) (start : Vector Line 4) :
    CommutesWith (State.mapAside inputs ticks tick) (linePhase pins ticked start) := by
  intro s t h
  simp only [linePhase, lineSample_mapAside, lineOrder_mapAside] at h ⊢
  refine CommutesWith.forEach _ (fun i => ?_) _ t h
  exact .ite (fun _ => Iff.rfl) (lineActions_commutes i) (.update fun _ => rfl)

end Aside

end Sys2Proof.Machine

/-! R137, R154: the consequences of a tick set PEND.TICK and count TICKS, and nothing after them in the step does. -/

namespace Sys2Proof.Machine

/-- What commutes with every change of TICKS and PEND.TICK leaves both as they are. -/
theorem keeps_tick_of_commutes {f : State → Result}
    (hf : ∀ n b, CommutesWith (State.mapAside id (fun _ => n) fun _ => b) f) {s t : State} (h : f s = .next t) :
    t.pend.tick = s.pend.tick ∧ t.ticks = s.ticks := by
  have same := (hf s.ticks s.pend.tick).fixed rfl h
  exact ⟨(congrArg (fun u => u.pend.tick) same).symm, (congrArg State.ticks same).symm⟩

theorem tickCount_ticks (s : State) : (tickCount s).2.ticks = s.ticks := by
  obtain ⟨-, e⟩ | ⟨-, -, e⟩ | ⟨-, -, e⟩ := tickCount_cases s <;> rw [e] <;> rfl

theorem tickEvent_records_tick (s : State) : (tickEvent s).pend.tick = true ∧ (tickEvent s).ticks = s.ticks + 1 := by
  unfold tickEvent recordOverrun
  split <;> exact ⟨rfl, rfl⟩

theorem tickPhase_records_tick {s t : State} (h : tickPhase s = .next t) :
    t.pend.tick = true ∧ t.ticks = s.ticks + 1 := by
  obtain ⟨pending, counted⟩ := tickEvent_records_tick s
  obtain ⟨-, e⟩ | ⟨-, e⟩ := tickPhase_cases s
  · obtain ⟨keptTick, keptTicks⟩ :=
      keeps_tick_of_commutes (fun _ _ => .forEach _ evalTask_commutes) (e.symm.trans h)
    exact ⟨keptTick.trans pending, keptTicks.trans counted⟩
  · cases e.symm.trans h
    exact ⟨pending, counted⟩

/-- Settles O53: the tick's consequences come after the bus phase, and slots and lines leave them. -/
theorem tickLeavesPending : Obligations.TickLeavesPending := by
  unfold Obligations.TickLeavesPending
  intro s u t hrst hbus htick h
  have phases : afterBus s.nextInput.pins s.lines u = .next t := by
    rw [step, blockStep_of_noReset hrst, hbus] at h
    exact h
  rw [afterBus_of_tick (Prod.ext htick rfl)] at phases
  obtain ⟨v, hv, ht⟩ := (andThen_eq_next ..).1 phases
  obtain ⟨pending, counted⟩ := tickPhase_records_tick hv
  obtain ⟨keptTick, keptTicks⟩ := keeps_tick_of_commutes (fun _ _ => linePhase_commutes _ _ _) ht
  exact ⟨keptTick.trans pending, (keptTicks.trans counted).trans (congrArg (· + 1) (tickCount_ticks u))⟩

end Sys2Proof.Machine

/-! R130, R131: a step of the block does not look at the inputs of later steps. Beside the parts above these are the bus
access, the tick counter and the tick's bookkeeping, which write TICKS and PEND.TICK but not the inputs. -/

namespace Sys2Proof.Machine

/-- The state with other inputs to come. -/
abbrev State.setInputs (inputs : List Input) : State → State := State.mapAside (fun _ => inputs) id id

section LaterInputs

variable (inputs : List Input)

theorem regRead_setInputs (r : Reg) (s : State) : regRead r (s.setInputs inputs) = regRead r s := by
  cases r <;> rfl

theorem windowRead_setInputs (s : State) (a : Nat) : windowRead (s.setInputs inputs) a = windowRead s a := by
  unfold windowRead
  split
  next => rfl
  next r _ => exact regRead_setInputs inputs r s

/-! The register writes that look at the state. -/

theorem checkReload_setInputs (v : Word) (s : State) :
    checkReload v (s.setInputs inputs) = (checkReload v s).setInputs inputs := by
  unfold checkReload
  rw [apply_ite (State.setInputs inputs), raiseError_mapAside]
  rfl

theorem writePend_setInputs (v : Word) (s : State) :
    writePend v (s.setInputs inputs) = (writePend v s).setInputs inputs := by
  unfold writePend
  split <;> rfl

theorem writeTaskCtrl_setInputs (k : Fin 4) (v : Word) (s : State) :
    writeTaskCtrl k v (s.setInputs inputs) = (writeTaskCtrl k v s).setInputs inputs := by
  unfold writeTaskCtrl
  rw [apply_ite (State.setInputs inputs)]
  rfl

theorem writeTaskReload_setInputs (k : Fin 4) (v : Word) (s : State) :
    writeTaskReload k v (s.setInputs inputs) = (writeTaskReload k v s).setInputs inputs := by
  simp only [writeTaskReload, State.mapAside_task]
  split <;> rfl

theorem writeLineCtrl_setInputs (i : Fin 4) (v : Word) (s : State) :
    writeLineCtrl i v (s.setInputs inputs) = (writeLineCtrl i v s).setInputs inputs := by
  unfold writeLineCtrl
  rw [apply_ite (State.setInputs inputs)]
  rfl

variable {inputs}

theorem regWrite_commutes (r : Reg) (v : Word) : CommutesWith (State.setInputs inputs) (regWrite r v) := by
  cases r with
  | cmd => exact execWord_commutes v .cmd 0
  | tickCtrl => exact .update fun s => checkReload_setInputs inputs v (s.setTickCtrl (TickCtrl.ofWord v))
  | tickReload => exact .update fun s => checkReload_setInputs inputs v (s.setTickReload (v.extractLsb' 0 24))
  | pend => exact .update (writePend_setInputs inputs v)
  | taskCtrl k => exact .update (writeTaskCtrl_setInputs inputs k v)
  | taskReload k => exact .update (writeTaskReload_setInputs inputs k v)
  | lineCtrl i => exact .update (writeLineCtrl_setInputs inputs i v)
  | _ => exact .update fun _ => rfl

theorem windowWrite_commutes (a : Nat) (v : Word) : CommutesWith (State.setInputs inputs) (windowWrite a v) := by
  cases h : regAt a with
  | none =>
    rw [funext (windowWrite_of_unmapped h v)]
    exact .update fun _ => rfl
  | some r =>
    obtain rfl := offset_of_regAt h
    rw [funext (windowWrite_offset r v)]
    exact regWrite_commutes r v

theorem busAccess_commutes (req : Option BusRequest) : CommutesWith (State.setInputs inputs) (busAccess req) := by
  cases req with
  | none => exact .update fun _ => rfl
  | some q =>
    cases hp : permitted q with
    | false =>
      rw [funext (busAccess_refused hp)]
      exact .update fun s => congrArg (State.setRsp · _) (raiseError_mapAside ..)
    | true =>
      cases hw : q.write with
      | false =>
        rw [funext (busAccess_read hp hw)]
        refine .update fun s => ?_
        rw [windowRead_setInputs]
        rfl
      | true =>
        rw [funext (busAccess_write hp hw)]
        exact (windowWrite_commutes _ _).andThen (.update fun _ => rfl)

theorem tickCount_setInputs (s : State) :
    tickCount (s.setInputs inputs) = ((tickCount s).1, (tickCount s).2.setInputs inputs) := by
  obtain ⟨en, e⟩ | ⟨en, zero, e⟩ | ⟨en, pos, e⟩ := tickCount_cases s <;> rw [e]
  · exact if_pos en
  · exact (if_neg (Bool.not_eq_false _ ▸ en)).trans (if_pos zero)
  · exact (if_neg (Bool.not_eq_false _ ▸ en)).trans (if_neg pos)

theorem recordOverrun_setInputs (s : State) :
    recordOverrun (s.setInputs inputs) = (recordOverrun s).setInputs inputs := by
  unfold recordOverrun
  rw [apply_ite (State.setInputs inputs)]
  rfl

theorem tickEvent_setInputs (s : State) : tickEvent (s.setInputs inputs) = (tickEvent s).setInputs inputs :=
  congrArg (fun u => accTick 1 (accTick 0 (pendTick u))) (recordOverrun_setInputs (s.setTicks (s.ticks + 1)))

theorem tickPhase_commutes : CommutesWith (State.setInputs inputs) tickPhase := by
  have slots : CommutesWith (State.setInputs inputs) (forEach [0, 1, 2, 3] evalTask) := .forEach _ evalTask_commutes
  have dispatch : CommutesWith (State.setInputs inputs)
      fun u => if u.tickCtrl.dispatch then forEach [0, 1, 2, 3] evalTask u else .next u :=
    .ite (fun _ => Iff.rfl) slots (.update fun _ => rfl)
  exact dispatch.after tickEvent_setInputs

theorem afterBus_commutes (pins : BitVec 4) (start : Vector Line 4) :
    CommutesWith (State.setInputs inputs) (afterBus pins start) := by
  intro s t h
  have moved := tickCount_setInputs (inputs := inputs) s
  obtain ⟨ticked, e⟩ | ⟨ticked, e⟩ := afterBus_cases pins start s <;> rw [ticked] at moved
  · rw [afterBus_of_noTick moved]
    exact linePhase_commutes pins false start _ t (e.symm.trans h)
  · rw [afterBus_of_tick moved]
    exact tickPhase_commutes.andThen (linePhase_commutes pins true start) _ t (e.symm.trans h)

theorem blockStep_commutes (i : Input) : CommutesWith (State.setInputs inputs) (blockStep i) := by
  cases hi : i.rst with
  | true =>
    rw [funext (blockStep_of_reset hi)]
    exact .update fun _ => rfl
  | false =>
    rw [funext (blockStep_of_noReset hi)]
    intro s
    exact (busAccess_commutes i.req).andThen (afterBus_commutes i.pins s.lines) s

end LaterInputs

/-- Settles O56: the step is the block's step on the coming input, in a state that differs in the later inputs alone. -/
theorem laterInputsDoNotMatter : Obligations.LaterInputsDoNotMatter := by
  unfold Obligations.LaterInputsDoNotMatter
  intro s t i rest rest' h
  rw [step_of_inputs_cons rfl] at h ⊢
  exact blockStep_commutes (inputs := rest') i _ t h

end Sys2Proof.Machine

/-! The tick source: what one count does (R150), and its period (R159). -/

namespace Sys2Proof.Machine

theorem tickCount_of_disabled {s : State} (h : s.tickCtrl.en = false) : tickCount s = (false, s) := if_pos h

/-- An enabled count is the reload or the decrement of R150. -/
theorem tickCount_of_enabled {s : State} (h : s.tickCtrl.en = true) :
    tickCount s =
      if s.tickCurrent = 0 then (false, s.setTickCurrent s.tickReload)
      else (s.tickCurrent - 1 == 0, s.setTickCurrent (s.tickCurrent - 1)) :=
  if_neg (by simp [h])

theorem tickCount_of_zero {s : State} (h : s.tickCtrl.en = true) (zero : s.tickCurrent = 0) :
    tickCount s = (false, s.setTickCurrent s.tickReload) :=
  (tickCount_of_enabled h).trans (if_pos zero)

theorem tickCount_of_one {s : State} (h : s.tickCtrl.en = true) (one : s.tickCurrent.toNat = 1) :
    tickCount s = (true, s.setTickCurrent 0) := by
  have value : s.tickCurrent = 1 := BitVec.eq_of_toNat_eq one
  rw [tickCount_of_enabled h, value]
  rfl

theorem tickCount_of_gt_one {s : State} (h : s.tickCtrl.en = true) (above : 1 < s.tickCurrent.toNat) :
    tickCount s = (false, s.setTickCurrent (BitVec.ofNat 24 (s.tickCurrent.toNat - 1))) := by
  have nonzero : s.tickCurrent ≠ 0 := by bv_omega
  have noTick : s.tickCurrent - 1 ≠ 0 := by bv_omega
  have value : s.tickCurrent - 1 = BitVec.ofNat 24 (s.tickCurrent.toNat - 1) := by bv_omega
  rw [tickCount_of_enabled h, if_neg nonzero, beq_false_of_ne noTick, value]

/-- Settles O34: R150, case by case. -/
theorem tickCounterCounts : Obligations.TickCounterCounts := by
  unfold Obligations.TickCounterCounts
  exact fun s => ⟨tickCount_of_disabled, tickCount_of_zero, tickCount_of_gt_one, tickCount_of_one⟩

/-- The invariant behind R159, `n` counts after CURRENT = 0: RELOAD stays, CURRENT is at most RELOAD, and the counts made
and those left until CURRENT is 0 again fill whole periods of RELOAD + 1. -/
structure InPeriod (reload : BitVec 24) (n : Nat) (s : State) : Prop where
  enabled : s.tickCtrl.en = true
  reload_eq : s.tickReload = reload
  current_le : s.tickCurrent.toNat ≤ reload.toNat
  periods : reload.toNat + 1 ∣ n + s.tickCurrent.toNat

namespace InPeriod

/-- A count reloads, and a new period begins, or one of the counts left becomes one made. -/
theorem tickCount {reload : BitVec 24} {n : Nat} {s : State} (h : InPeriod reload n s) :
    InPeriod reload (n + 1) (tickCount s).2 := by
  obtain ⟨enabled, reload_eq, current_le, periods⟩ := h
  obtain ⟨disabled, -⟩ | ⟨-, zero, e⟩ | ⟨-, nonzero, e⟩ := tickCount_cases s
  · exact absurd (enabled.symm.trans disabled) (by decide)
  · rw [e]
    have begun : n + s.tickCurrent.toNat + (reload.toNat + 1) = n + 1 + reload.toNat := by bv_omega
    subst reload_eq
    exact ⟨enabled, rfl, le_rfl, (periods.add dvd_rfl).trans (dvd_of_eq begun)⟩
  · rw [e]
    have left : (s.tickCurrent - 1).toNat + 1 = s.tickCurrent.toNat := by bv_omega
    have moved : n + s.tickCurrent.toNat = n + 1 + (s.tickCurrent - 1).toNat := by omega
    have lower : (s.tickCurrent - 1).toNat ≤ reload.toNat := by omega
    exact ⟨enabled, reload_eq, lower, periods.trans (dvd_of_eq moved)⟩

theorem afterCounts {s : State} (enabled : s.tickCtrl.en = true) (zero : s.tickCurrent = 0) (n : Nat) :
    InPeriod s.tickReload n (afterCounts n s) := by
  induction n with
  | zero => exact ⟨enabled, rfl, by simp [Machine.afterCounts, zero], by simp [Machine.afterCounts, zero]⟩
  | succ n ih => exact ih.tickCount

/-- CURRENT is 1 exactly when one count is left of the period. -/
theorem current_eq_one_iff {reload : BitVec 24} {n : Nat} {s : State} (h : InPeriod reload n s)
    (positive : 0 < reload.toNat) : s.tickCurrent.toNat = 1 ↔ reload.toNat + 1 ∣ n + 1 := by
  refine ⟨fun one => one ▸ h.periods, fun whole => ?_⟩
  have same : s.tickCurrent.toNat ≡ 1 [MOD reload.toNat + 1] :=
    Nat.ModEq.add_left_cancel' n
      ((Nat.modEq_zero_iff_dvd.2 h.periods).trans (Nat.modEq_zero_iff_dvd.2 whole).symm)
  exact same.eq_of_lt_of_lt (Nat.lt_succ_of_le h.current_le) (Nat.succ_lt_succ positive)

end InPeriod

theorem tickCount_isTick_iff {s : State} (h : s.tickCtrl.en = true) :
    (tickCount s).1 = true ↔ s.tickCurrent.toNat = 1 := by
  obtain zero | one | above : s.tickCurrent.toNat = 0 ∨ s.tickCurrent.toNat = 1 ∨ 1 < s.tickCurrent.toNat := by omega
  · simp [tickCount_of_zero h (BitVec.eq_of_toNat_eq zero), zero]
  · simp [tickCount_of_one h one, one]
  · simp [tickCount_of_gt_one h above, above.ne']

/-- Settles O35: a count is a tick when CURRENT is 1 before it, which the invariant places at the end of each period; with
RELOAD = 0 CURRENT stays 0. -/
theorem tickPeriodIsReloadPlusOne : Obligations.TickPeriodIsReloadPlusOne := by
  unfold Obligations.TickPeriodIsReloadPlusOne
  intro s n enabled zero
  have inv := InPeriod.afterCounts enabled zero n
  have tick_iff : ticksAt n s = true ↔ (afterCounts n s).tickCurrent.toNat = 1 := tickCount_isTick_iff inv.enabled
  refine ⟨fun nonzero => ?_, fun noReload => ?_⟩
  · have positive : 0 < s.tickReload.toNat := by bv_omega
    exact (tick_iff.trans (inv.current_eq_one_iff positive)).trans Nat.dvd_iff_mod_eq_zero
  · have current := inv.current_le
    exact Bool.eq_false_iff.2 fun tick => absurd (tick_iff.1 tick) (by bv_omega)

end Sys2Proof.Machine

/-! The consequences of a tick (R154, R270). -/

namespace Sys2Proof.Machine

theorem saturatingInc_eq_min (x : Word) : saturatingInc x = BitVec.ofNat 32 (min (x.toNat + 1) (2 ^ 32 - 1)) := by
  by_cases full : x = 0xFFFFFFFF
  · subst full
    rfl
  · have room : x.toNat + 1 ≤ 2 ^ 32 - 1 := by bv_omega
    rw [saturatingInc, if_neg full, min_eq_left room]
    bv_omega

/-- An overrun is recorded in two registers, in each of them when PEND.TICK was 1. -/
theorem recordOverrun_eq (s : State) :
    recordOverrun s =
      { s with
        missed := if s.pend.tick then { s.missed with tickOvr := true } else s.missed
        ovrCnt := if s.pend.tick then saturatingInc s.ovrCnt else s.ovrCnt } := by
  unfold recordOverrun
  cases s.pend.tick <;> rfl

/-- There are two units, so one AccTick for each of them is one for every unit. -/
theorem accTick_accTick (s : State) :
    accTick 1 (accTick 0 s) = { s with meas := s.meas.map fun x => { x with acc := saturatingInc x.acc } } := by
  have units : (accTick 1 (accTick 0 s)).meas = s.meas.map fun x => { x with acc := saturatingInc x.acc } := by
    ext1 u hu
    obtain rfl | rfl : u = 0 ∨ u = 1 := by omega
    · simp [accTick, State.setMeasUnit, State.measUnit]
    · simp [accTick, State.setMeasUnit, State.measUnit]
  exact congrArg (fun meas => { s with meas := meas }) units

/-- Settles O36: the overrun record, PEND.TICK and the accumulators, on the state that has counted the tick. -/
theorem tickEventBookkeeping : Obligations.TickEventBookkeeping := by
  unfold Obligations.TickEventBookkeeping
  intro s
  simp only [← saturatingInc_eq_min]
  unfold tickEvent
  rw [accTick_accTick, recordOverrun_eq]
  rfl

end Sys2Proof.Machine

/-! Writes of the tick source (R23 to R25, R155). -/

namespace Sys2Proof.Machine

theorem checkReload_eq (v : Word) (s : State) :
    checkReload v s =
      if s.tickCtrl.en = true ∧ s.tickReload = 0 then raiseError .badReload .tickCfg 0 v s else s := by
  simp only [checkReload, Bool.and_eq_true, beq_iff_eq]

/-- Settles O30: both writes check the state they have stored in, and RELOAD is the low 24 bits of the data. -/
theorem badReloadIsReported : Obligations.BadReloadIsReported := by
  unfold Obligations.BadReloadIsReported
  intro v s
  have low : v.extractLsb' 0 24 = BitVec.ofNat 24 v.toNat := by simp [BitVec.extractLsb']
  have low_eq_zero : BitVec.ofNat 24 v.toNat = 0 ↔ v.toNat % 2 ^ 24 = 0 := by simp [← BitVec.toNat_inj]
  refine ⟨congrArg Host.Outcome.next (checkReload_eq v _), congrArg Host.Outcome.next ?_, rfl⟩
  rw [writeTickReload, low, checkReload_eq]
  exact if_congr (and_congr_right' low_eq_zero) rfl rfl

end Sys2Proof.Machine

/-! The words of the actions with a target (R101 to R105): the match word of R104, with the target's number in SEL and the
immediate in IMM. -/

namespace Sys2Proof

theorem Opcode.matchWord_toNat (o : Opcode) : o.matchWord.toNat = o.number.toNat * 2 ^ 27 := by
  cases o <;> rfl

theorem matchWord_add_eq_fields (o : Opcode) (n : BitVec 3) (imm : Half) :
    o.matchWord + n.setWidth 32 * 0x01000000 + imm.setWidth 32 = o.number ++ n ++ 0#8 ++ imm := by
  have op := o.number.isLt
  have sel := n.isLt
  have low := imm.isLt
  apply BitVec.eq_of_toNat_eq
  rw [fields_toNat, ← o.matchWord_toNat]
  have number := o.matchWord_toNat
  bv_omega

theorem decode_matchWord_add {o : Opcode} {n : BitVec 3} {imm : Half} (target : o.kind ≠ .none)
    (himm : o.takesImm = false → imm = 0) (range : n.toNat < o.kind.range) :
    decode (o.matchWord + n.setWidth 32 * 0x01000000 + imm.setWidth 32) = .ok (o.build n imm) := by
  have sel : selField (o.number ++ n ++ 0#8 ++ imm) = n := selField_of_fields ..
  have low : immField (o.number ++ n ++ 0#8 ++ imm) = imm := immField_of_fields ..
  have legal : LegalFields o (o.number ++ n ++ 0#8 ++ imm) :=
    { op := opField_of_fields ..
      rsv := rsvField_of_fields ..
      sel := fun h => absurd h target
      imm := fun h => low.trans (himm h)
      range := by rwa [sel] }
  rw [matchWord_add_eq_fields, decode_of_legalFields legal, sel, low]

/-! The errors of a word of a known operation code with a target, in the order of the checks. -/

theorem decode_badFmt_of_rsv {w : Word} {o : Opcode} (op : opField w = o.number) (rsv : rsvField w ≠ 0) :
    decode w = .error .badFmt := by
  rw [decode_of_opField op, if_pos rsv]

theorem decode_badFmt_of_imm {w : Word} {o : Opcode} (op : opField w = o.number) (noImm : o.takesImm = false)
    (imm : immField w ≠ 0) : decode w = .error .badFmt := by
  rw [decode_of_opField op, if_pos (c := o.takesImm = false ∧ _) ⟨noImm, imm⟩]
  split_ifs <;> rfl

theorem decode_badIdx {w : Word} {o : Opcode} (op : opField w = o.number) (target : o.kind ≠ .none)
    (rsv : rsvField w = 0) (himm : o.takesImm = false → immField w = 0) (range : o.kind.range ≤ (selField w).toNat) :
    decode w = .error .badIdx := by
  rw [decode_of_opField op, if_neg (not_not.2 rsv), if_neg fun c => target c.1, if_neg fun c => c.2 (himm c.1),
    if_pos range]

end Sys2Proof

namespace Sys2Proof.Machine

/-- An operation code with a target and no immediate has the words and errors of its row. -/
theorem targetForm {o : Opcode} (target : o.kind ≠ .none) (noImm : o.takesImm = false) :
    TargetForm o.number o.matchWord o.kind.range fun n => o.build n 0 := by
  refine ⟨fun n range => ?_, fun w op => ⟨fun h => ?_, fun imm rsv range => ?_⟩⟩
  · have word := decode_matchWord_add (imm := 0) target (fun _ => rfl) range
    have low : (0 : Half).setWidth 32 = 0#32 := rfl
    rwa [low, BitVec.add_zero] at word
  · exact h.elim (decode_badFmt_of_imm op noImm) (decode_badFmt_of_rsv op)
  · exact decode_badIdx op target rsv (fun _ => imm) range

/-- An operation code with a target and an immediate has the words and errors of its row. -/
theorem immediateForm {o : Opcode} (target : o.kind ≠ .none) (takesImm : o.takesImm = true) :
    ImmediateForm o.number o.matchWord o.kind.range o.build := by
  have himm {imm : Half} (h : o.takesImm = false) : imm = 0 := absurd (takesImm.symm.trans h) (by decide)
  refine ⟨fun n imm range => decode_matchWord_add target himm range, fun w op => ⟨decode_badFmt_of_rsv op, ?_⟩⟩
  exact fun rsv range => decode_badIdx op target rsv himm range

end Sys2Proof.Machine

/-! The TASK actions (R182 to R185) and the counts they store. -/

namespace Sys2Proof.Machine

theorem periodStart_countdown {x : Task} (h : x.ctrl.mode = .countdown) : periodStart x = x.reload := by
  rw [periodStart, h]

theorem periodStart_track {x : Task} (h : x.ctrl.mode = .track) : periodStart x = 0 := by
  rw [periodStart, h]

theorem countWithin_countdown {x : Task} (h : x.ctrl.mode = .countdown) (v : Word) :
    countWithin x v = BitVec.ofNat 32 (min v.toNat x.reload.toNat) := by
  rw [countWithin, h]
  by_cases below : v.toNat ≤ x.reload.toNat
  · simp [below]
  · simp [below, min_eq_right (le_of_not_ge below)]

theorem countWithin_track {x : Task} (h : x.ctrl.mode = .track) (v : Word) : countWithin x v = v := by
  rw [countWithin, h]

theorem immWord_toNat (imm : Half) : (immWord imm).toNat = imm.toNat :=
  BitVec.toNat_setWidth_of_le (by decide)

theorem immWord_eq_ofNat (imm : Half) : immWord imm = BitVec.ofNat 32 imm.toNat := by
  rw [← immWord_toNat, BitVec.ofNat_toNat, BitVec.setWidth_eq]

theorem onTarget_of_some {α : Type} {target : Option α} {a : α} (h : target = some a) (i : Instr) (s : State)
    (f : α → State) : onTarget i target s f = .next (f a) := by
  rw [h]
  rfl

section TaskActions

variable {n : BitVec 3} (h : n.toNat < 4) (s : State)

theorem exec_taskRst : exec (.taskRst n) s = .next (s.setCount ⟨n.toNat, h⟩ (periodStart (s.task ⟨n.toNat, h⟩))) :=
  onTarget_of_some (taskSel_of_lt n h) ..

theorem exec_taskSetc (imm : Half) :
    exec (.taskSetc n imm) s =
      .next (s.setCount ⟨n.toNat, h⟩ (countWithin (s.task ⟨n.toNat, h⟩) (immWord imm))) :=
  onTarget_of_some (taskSel_of_lt n h) ..

theorem exec_taskEn : exec (.taskEn n) s = .next (s.setTaskEn ⟨n.toNat, h⟩ true) :=
  onTarget_of_some (taskSel_of_lt n h) ..

theorem exec_taskDis : exec (.taskDis n) s = .next (s.setTaskEn ⟨n.toNat, h⟩ false) :=
  onTarget_of_some (taskSel_of_lt n h) ..

end TaskActions

/-- Settles O13: the words are those of rows with a target, and the count stored is the one of the slot's mode. -/
theorem taskCountActionEffects : Obligations.TaskCountActionEffects := by
  unfold Obligations.TaskCountActionEffects
  refine ⟨targetForm (o := .taskRst) (by decide) rfl, immediateForm (o := .taskSetc) (by decide) rfl,
    fun s n imm h => ⟨fun (countdown : (s.task ⟨n.toNat, h⟩).ctrl.mode = .countdown) => ?_,
      fun (track : (s.task ⟨n.toNat, h⟩).ctrl.mode = .track) => ?_⟩⟩
  · rw [exec_taskRst h, exec_taskSetc h, periodStart_countdown countdown, countWithin_countdown countdown, immWord_toNat]
    exact ⟨rfl, rfl⟩
  · rw [exec_taskRst h, exec_taskSetc h, periodStart_track track, countWithin_track track, immWord_eq_ofNat]
    exact ⟨rfl, rfl⟩

/-- Settles O14: the words are those of rows with a target, and both actions write CTRL.EN alone. -/
theorem taskEnableActionEffects : Obligations.TaskEnableActionEffects := by
  unfold Obligations.TaskEnableActionEffects
  exact ⟨targetForm (o := .taskEn) (by decide) rfl, targetForm (o := .taskDis) (by decide) rfl,
    fun s n h => ⟨exec_taskEn h s, exec_taskDis h s⟩⟩

end Sys2Proof.Machine

/-! Register writes of a slot (R180, R181). -/

namespace Sys2Proof.Machine

theorem writeTaskReload_countdown {k : Fin 4} {s : State} (h : (s.task k).ctrl.mode = .countdown) (v : Word) :
    writeTaskReload k v s = s.setTask k { s.task k with reload := v, count := v } := by
  rw [writeTaskReload, h]

theorem writeTaskReload_track {k : Fin 4} {s : State} (h : (s.task k).ctrl.mode = .track) (v : Word) :
    writeTaskReload k v s = s.setTask k { s.task k with reload := v } := by
  rw [writeTaskReload, h]

/-- Settles O31: in COUNTDOWN mode both writes see to COUNT ≤ RELOAD, in TRACK mode they store the data. -/
theorem taskReloadAndCountWrites : Obligations.TaskReloadAndCountWrites := by
  unfold Obligations.TaskReloadAndCountWrites
  refine fun k v s => ⟨fun (countdown : (s.task k).ctrl.mode = .countdown) => ?_,
    fun (track : (s.task k).ctrl.mode = .track) => ?_⟩
  · rw [regWrite, regWrite, writeTaskCount, writeTaskReload_countdown countdown, countWithin_countdown countdown]
    exact ⟨rfl, rfl⟩
  · rw [regWrite, regWrite, writeTaskCount, writeTaskReload_track track, countWithin_track track]
    exact ⟨rfl, rfl⟩

/-- MODE is bit 1 of a written CTRL (R37). -/
theorem TaskCtrl.mode_ofWord (v : Word) : (TaskCtrl.ofWord v).mode = if v.getLsbD 1 then .track else .countdown := rfl

/-- The COUNT of a slot `x` after a write of `v` to its CTRL, by the MODE written and the MODE before (R181). -/
def countAfterCtrl (x : Task) (v : Word) : Word :=
  if v.getLsbD 1 = true ∧ x.ctrl.mode = .countdown then 0
  else if v.getLsbD 1 = false ∧ x.ctrl.mode = .track then x.reload
  else x.count

theorem countAfterCtrl_of_same {x : Task} {v : Word} (same : (TaskCtrl.ofWord v).mode = x.ctrl.mode) :
    countAfterCtrl x v = x.count := by
  unfold countAfterCtrl
  rw [← same, TaskCtrl.mode_ofWord]
  cases v.getLsbD 1 <;> rfl

theorem countAfterCtrl_of_changed {x : Task} {v : Word} (changed : (TaskCtrl.ofWord v).mode ≠ x.ctrl.mode) :
    countAfterCtrl x v = periodStart { x with ctrl := TaskCtrl.ofWord v } := by
  have written := TaskCtrl.mode_ofWord v
  unfold countAfterCtrl
  cases hv : v.getLsbD 1 <;> cases hx : x.ctrl.mode
  case false.countdown | true.track => exact absurd (by rw [written, hv, hx]; rfl) changed
  case false.track =>
    rw [periodStart_countdown (by rw [written, hv]; rfl)]
    rfl
  case true.countdown =>
    rw [periodStart_track (by rw [written, hv]; rfl)]
    rfl

theorem writeTaskCtrl_eq (k : Fin 4) (v : Word) (s : State) :
    writeTaskCtrl k v s =
      s.setTask k { s.task k with ctrl := TaskCtrl.ofWord v, count := countAfterCtrl (s.task k) v } := by
  obtain ⟨same, e⟩ | ⟨changed, e⟩ := writeTaskCtrl_cases k v s <;> rw [e]
  · rw [countAfterCtrl_of_same same]
  · rw [countAfterCtrl_of_changed changed]

/-- Settles O32: CTRL takes its field bits, and COUNT follows the change of MODE. -/
theorem taskModeChangeSetsCount : Obligations.TaskModeChangeSetsCount := by
  unfold Obligations.TaskModeChangeSetsCount
  exact fun k v s => ⟨TaskCtrl.ofWord v, TaskCtrl.word_ofWord v, congrArg Host.Outcome.next (writeTaskCtrl_eq k v s)⟩

end Sys2Proof.Machine

/-! What the evaluation of a slot answers, case by case (R170 to R179, R276). -/

namespace Sys2Proof.Machine

theorem evalTask_of_disabled {k : Fin 4} {s : State} (h : (s.task k).ctrl.en = false) : evalTask k s = .next s :=
  if_pos h

theorem evalTask_of_countdown {k : Fin 4} {s : State} (en : (s.task k).ctrl.en = true)
    (mode : (s.task k).ctrl.mode = .countdown) : evalTask k s = evalCountdown k s := by
  rw [evalTask, if_neg (by simp [en]), mode]

theorem evalTask_of_track {k : Fin 4} {s : State} (en : (s.task k).ctrl.en = true)
    (mode : (s.task k).ctrl.mode = .track) : evalTask k s = evalTrack k s := by
  rw [evalTask, if_neg (by simp [en]), mode]

/-- The slot fires when it is evaluated: COUNT has run out in COUNTDOWN mode, and reaches PERIOD in TRACK mode. -/
def Due (s : State) (k : Fin 4) : Prop :=
  ((s.task k).ctrl.mode = .countdown ∧ (s.task k).count = 0) ∨
    ((s.task k).ctrl.mode = .track ∧
      (s.measUnit (s.task k).ctrl.msel.toFin).period.toNat ≤ (s.task k).count.toNat + 1)

theorem evalTask_counts_down {k : Fin 4} {s : State} (en : (s.task k).ctrl.en = true)
    (mode : (s.task k).ctrl.mode = .countdown) (positive : (s.task k).count ≠ 0) :
    evalTask k s = .next (s.setCount k ((s.task k).count - 1)) := by
  rw [evalTask_of_countdown en mode, evalCountdown, if_neg positive]

theorem evalTask_counts_up {k : Fin 4} {s : State} (en : (s.task k).ctrl.en = true)
    (mode : (s.task k).ctrl.mode = .track)
    (below : (s.task k).count.toNat + 1 < (s.measUnit (s.task k).ctrl.msel.toFin).period.toNat) :
    evalTask k s = .next (s.setCount k ((s.task k).count + 1)) := by
  rw [evalTask_of_track en mode, evalTrack, if_neg (not_le.2 below)]

theorem fire_of_gatedOff {k : Fin 4} {s : State} (h : gateOpen s k = false) : fire k s = .next s :=
  if_neg (Bool.eq_false_iff.1 h)

theorem fire_of_gateOpen {k : Fin 4} {s : State} (h : gateOpen s k = true) :
    fire k s = execWord (s.task k).action .task k (pendTask s k) :=
  if_pos h

theorem gateOpen_eq_false {k : Fin 4} {s : State} (gated : (s.task k).ctrl.gateEn = true)
    (flag : s.flags.getLsbD (s.task k).ctrl.gateFlag.toNat = false) : gateOpen s k = false := by
  rw [gateOpen, gated, flag]
  rfl

theorem SameConfiguration.reload_eq {s t : State} (h : SameConfiguration s t) (k : Fin 4) :
    (t.task k).reload = (s.task k).reload := by
  obtain ⟨-, -, -, task, -, -, -⟩ := h
  obtain ⟨reload, -, -⟩ := task k
  exact reload

/-- A body may write its own slot's COUNT, never its RELOAD: whatever it does, a due evaluation then restarts the period
of the slot (R172, R173, R276). -/
theorem evalTask_of_due {k : Fin 4} {s t : State} (en : (s.task k).ctrl.en = true) (due : Due s k)
    (fired : fire k s = .next t) : evalTask k s = .next (t.setCount k (periodStart (s.task k))) := by
  have config : SameConfiguration s t := (stepClosed_sameConfiguration s).fire k s t (.refl s) fired
  obtain ⟨mode, zero⟩ | ⟨mode, reached⟩ := due
  · rw [evalTask_of_countdown en mode, evalCountdown, if_pos zero, fired, andThen_next, config.reload_eq k,
      periodStart_countdown mode]
  · rw [evalTask_of_track en mode, evalTrack, if_pos reached, fired, andThen_next, periodStart_track mode]

/-- A due evaluation that is gated off only restarts the period (R174). -/
theorem evalTask_of_gatedOff {k : Fin 4} {s : State} (en : (s.task k).ctrl.en = true) (due : Due s k)
    (gatedOff : gateOpen s k = false) : evalTask k s = .next (s.setCount k (periodStart (s.task k))) :=
  evalTask_of_due en due (fire_of_gatedOff gatedOff)

/-- Settles O38: an evaluation without a body is one write of COUNT. -/
theorem evaluationsWithoutBody : Obligations.EvaluationsWithoutBody := by
  unfold Obligations.EvaluationsWithoutBody
  intro k s
  have down : (s.task k).count ≠ 0 → (s.task k).count - 1 = BitVec.ofNat 32 ((s.task k).count.toNat - 1) := by
    bv_omega
  have stored : (s.task k).reload = BitVec.ofNat 32 (s.task k).reload.toNat := by bv_omega
  have up : (s.task k).count + 1 = BitVec.ofNat 32 ((s.task k).count.toNat + 1) := by bv_omega
  refine ⟨evalTask_of_disabled, fun en (mode : (s.task k).ctrl.mode = .countdown) positive => ?_,
    fun en (mode : (s.task k).ctrl.mode = .countdown) zero ⟨gated, flag⟩ => ?_,
    fun en (mode : (s.task k).ctrl.mode = .track) below => ?_,
    fun en (mode : (s.task k).ctrl.mode = .track) reached ⟨gated, flag⟩ => ?_⟩
  · rw [evalTask_counts_down en mode positive, down positive]
    rfl
  · rw [evalTask_of_gatedOff en (.inl ⟨mode, zero⟩) (gateOpen_eq_false gated flag), periodStart_countdown mode]
    exact congrArg (fun v => Host.Outcome.next (s.setCount k v)) stored
  · rw [evalTask_counts_up en mode below, up]
    rfl
  · rw [evalTask_of_gatedOff en (.inr ⟨mode, reached⟩) (gateOpen_eq_false gated flag), periodStart_track mode]
    rfl

/-- Executing a word leaves PEND.TASK as it is: no action writes it, and an error sets PEND.ERR alone. -/
theorem execWord_pendTask {w : Word} {src : Source} {idx : Fin 4} {s t : State} (h : execWord w src idx s = .next t) :
    t.pend.task = s.pend.task := by
  obtain ⟨e, -, he⟩ | ⟨i, -, hi⟩ := execWord_cases w src idx s
  · cases he.symm.trans h
    exact raiseError_pend_task ..
  · obtain ⟨u, hu, back⟩ := (andThen_eq_next ..).1 (hi.symm.trans h)
    cases back
    obtain ⟨-, task, -⟩ := (exec_effect hu).pend_eq
    exact task

theorem pendTask_pends (s : State) (k : Fin 4) : (pendTask s k).pend.task.getLsbD k.val = true := by
  simp [pendTask, setBit]

/-- Settles O39: the body runs with PEND.TASK[k] set and leaves it, and the period restarts after it. -/
theorem firingRunsBodyThenReloads : Obligations.FiringRunsBodyThenReloads := by
  unfold Obligations.FiringRunsBodyThenReloads
  intro k s x en gate due
  obtain ⟨u, body⟩ := execWord_completes x.action .task k (pendTask s k)
  have fired : fire k s = .next u := (fire_of_gateOpen gate).trans body
  have pends : u.pend.task.getLsbD k.val = true := by
    rw [execWord_pendTask body]
    exact pendTask_pends s k
  exact ⟨u, _, body, evalTask_of_due en due fired, rfl, pends⟩

end Sys2Proof.Machine

/-! The cadence of a COUNTDOWN slot (R177). -/

namespace Sys2Proof.Machine

theorem State.setCount_setCount (s : State) (k : Fin 4) (v w : Word) :
    (s.setCount k v).setCount k w = s.setCount k w := by
  simp [State.setCount, State.setTask, State.task]

theorem State.setCount_self (s : State) (k : Fin 4) : s.setCount k (s.task k).count = s := by
  have same : s.tasks.set k.val s.tasks[k] = s.tasks := Vector.set_getElem_self ..
  exact congrArg (fun tasks => { s with tasks := tasks }) same

theorem State.task_setCount_same (s : State) (k : Fin 4) (v : Word) :
    (s.setCount k v).task k = { s.task k with count := v } := by
  rw [State.task_setCount, if_pos rfl]

theorem gateOpen_setCount (s : State) (k : Fin 4) (v : Word) : gateOpen (s.setCount k v) k = gateOpen s k := by
  rw [gateOpen, gateOpen, State.task_setCount_same, State.setCount_flags]

theorem andThen_next_right (r : Result) : andThen r .next = r := by
  cases r <;> rfl

/-- The last of `n + 1` evaluations, where `evalTimes` takes the first one off. -/
theorem evalTimes_succ (k : Fin 4) (n : Nat) (s : State) :
    evalTimes k (n + 1) s = andThen (evalTimes k n s) (evalTask k) := by
  induction n generalizing s with
  | zero => exact andThen_next_right (evalTask k s)
  | succ n ih =>
    calc evalTimes k (n + 2) s = andThen (evalTask k s) (evalTimes k (n + 1)) := rfl
      _ = andThen (evalTask k s) fun u => andThen (evalTimes k n u) (evalTask k) := by rw [funext ih]
      _ = andThen (evalTimes k (n + 1) s) (evalTask k) := (andThen_andThen ..).symm

/-- Each of the first COUNT evaluations takes one off COUNT, and nothing else changes. -/
theorem evalTimes_counts_down {k : Fin 4} {s : State} (en : (s.task k).ctrl.en = true)
    (mode : (s.task k).ctrl.mode = .countdown) {n : Nat} (h : n ≤ (s.task k).count.toNat) :
    evalTimes k n s = .next (s.setCount k (BitVec.ofNat 32 ((s.task k).count.toNat - n))) := by
  induction n with
  | zero =>
    have same : BitVec.ofNat 32 ((s.task k).count.toNat - 0) = (s.task k).count := by bv_omega
    rw [same, State.setCount_self]
    rfl
  | succ n ih =>
    have counted := State.task_setCount_same s k (BitVec.ofNat 32 ((s.task k).count.toNat - n))
    have positive : BitVec.ofNat 32 ((s.task k).count.toNat - n) ≠ 0 := by bv_omega
    have left : BitVec.ofNat 32 ((s.task k).count.toNat - n) - 1 =
        BitVec.ofNat 32 ((s.task k).count.toNat - (n + 1)) := by bv_omega
    rw [evalTimes_succ, ih (Nat.le_of_succ_le h), andThen_next,
      evalTask_counts_down (by rw [counted]; exact en) (by rw [counted]; exact mode) (by rw [counted]; exact positive),
      State.setCount_setCount, counted, left]

/-- A NOP changes nothing, in whatever name it executes (R290). -/
theorem execWord_zero (src : Source) (idx : Fin 4) (s : State) : execWord 0 src idx s = .next s :=
  execWord_of_ok (decodeOfEncode .nop rfl) src idx s

/-- With the body NOP and an open gate, a slot that has run out sets PEND.TASK[k] and restarts at RELOAD. -/
theorem evalTask_fires_nop {k : Fin 4} {s : State} (en : (s.task k).ctrl.en = true)
    (mode : (s.task k).ctrl.mode = .countdown) (zero : (s.task k).count = 0) (nop : (s.task k).action = 0)
    (gate : gateOpen s k = true) : evalTask k s = .next ((pendTask s k).setCount k (s.task k).reload) := by
  have fired : fire k s = .next (pendTask s k) := by rw [fire_of_gateOpen gate, nop, execWord_zero]
  rw [evalTask_of_due en (.inl ⟨mode, zero⟩) fired, periodStart_countdown mode]

/-- COUNT evaluations count down to 0, and the next one is due. -/
theorem evalTimes_fires_nop {k : Fin 4} {s : State} (en : (s.task k).ctrl.en = true)
    (mode : (s.task k).ctrl.mode = .countdown) (nop : (s.task k).action = 0) (gate : gateOpen s k = true) :
    evalTimes k ((s.task k).count.toNat + 1) s = .next ((pendTask s k).setCount k (s.task k).reload) := by
  have ranOut : evalTimes k (s.task k).count.toNat s = .next (s.setCount k 0) := by
    rw [evalTimes_counts_down en mode le_rfl, Nat.sub_self]
    rfl
  have slot := State.task_setCount_same s k 0
  have fires : evalTask k (s.setCount k 0) = .next ((pendTask (s.setCount k 0) k).setCount k (s.task k).reload) := by
    rw [evalTask_fires_nop, slot]
    · rwa [slot]
    · rwa [slot]
    · rw [slot]
    · rwa [slot]
    · rwa [gateOpen_setCount]
  calc evalTimes k ((s.task k).count.toNat + 1) s = evalTask k (s.setCount k 0) := by
        rw [evalTimes_succ, ranOut, andThen_next]
    _ = .next (((pendTask s k).setCount k 0).setCount k (s.task k).reload) := fires
    _ = .next ((pendTask s k).setCount k (s.task k).reload) := by rw [State.setCount_setCount]

/-- Settles O40, from the countdown and the firing that ends it. -/
theorem countdownFiresAfterCountTicks : Obligations.CountdownFiresAfterCountTicks := by
  unfold Obligations.CountdownFiresAfterCountTicks
  exact fun k s en mode => ⟨fun n h => evalTimes_counts_down en mode h, evalTimes_fires_nop en mode⟩

end Sys2Proof.Machine

/-! The slots of one tick (R170, R171). -/

namespace Sys2Proof.Machine

theorem forEach_singleton {α : Type} (a : α) (f : α → State → Result) : forEach [a] f = f a :=
  funext fun s => andThen_next_right (f a s)

theorem tickEvent_tickCtrl (s : State) : (tickEvent s).tickCtrl = s.tickCtrl :=
  ((stepClosed_sameConfiguration s).tickEvent (.refl s)).1

/-- Settles O37: the bookkeeping leaves DISPATCH, and the four slots are a sequence of four evaluations. -/
theorem dispatchEvaluatesSlotsInOrder : Obligations.DispatchEvaluatesSlotsInOrder := by
  unfold Obligations.DispatchEvaluatesSlotsInOrder
  intro s
  have dispatch : (tickEvent s).tickCtrl.dispatch = s.tickCtrl.dispatch :=
    congrArg TickCtrl.dispatch (tickEvent_tickCtrl s)
  obtain ⟨on, e⟩ | ⟨off, e⟩ := tickPhase_cases s
  · refine ⟨fun off => absurd (on.symm.trans (dispatch.trans off)) (by decide), fun _ => e.trans ?_⟩
    rw [← forEach_singleton 3 evalTask]
    rfl
  · exact ⟨fun _ => e, fun on => absurd (off.symm.trans (dispatch.trans on)) (by decide)⟩

end Sys2Proof.Machine

/-! The OUT actions (R202 to R204). -/

namespace Sys2Proof.Machine

section OutActions

variable (n : BitVec 3) (s : State)

theorem exec_outSet : exec (.outSet n) s = .next (s.setOut (s.out ||| s.maskReg n.toFin)) :=
  onTarget_of_some (maskSel_eq n) ..

theorem exec_outClr : exec (.outClr n) s = .next (s.setOut (s.out &&& ~~~s.maskReg n.toFin)) :=
  onTarget_of_some (maskSel_eq n) ..

theorem exec_outTgl : exec (.outTgl n) s = .next (s.setOut (s.out ^^^ s.maskReg n.toFin)) :=
  onTarget_of_some (maskSel_eq n) ..

end OutActions

/-- Settles O10: the words are those of rows with a target, and every SEL names a mask. -/
theorem outputActionEffects : Obligations.OutputActionEffects := by
  unfold Obligations.OutputActionEffects
  exact ⟨targetForm (o := .outSet) (by decide) rfl, targetForm (o := .outClr) (by decide) rfl,
    targetForm (o := .outTgl) (by decide) rfl, fun s n _ => ⟨exec_outSet n s, exec_outClr n s, exec_outTgl n s⟩⟩

end Sys2Proof.Machine

/-! The shell of the SEQ actions (R200, R103), the entry they show (R201) and the cursor they move (R52). -/

namespace Sys2Proof.Machine

theorem seqSel_of_toNat {sel : BitVec 3} {j : Fin 2} (h : sel.toNat = j.val) : seqSel sel = some j := by
  obtain ⟨u, lt⟩ := j
  subst h
  exact seqSel_of_lt sel lt

section OnSeqUnit

variable {sel : BitVec 3} {j : Fin 2} {s : State}

theorem onSeqUnit_of_target (unit : sel.toNat = j.val) (i : Instr) (f : Fin 2 → State) :
    onSeqUnit i sel s f = .next (if lenLegal s j then f j else raiseByAction .badCfg i s) :=
  onTarget_of_some (seqSel_of_toNat unit) ..

theorem onSeqUnit_of_legal (unit : sel.toNat = j.val) (legal : lenLegal s j = true) (i : Instr) (f : Fin 2 → State) :
    onSeqUnit i sel s f = .next (f j) := by
  rw [onSeqUnit_of_target unit, if_pos legal]

theorem onSeqUnit_of_illegal (unit : sel.toNat = j.val) (illegal : lenLegal s j = false) (i : Instr)
    (f : Fin 2 → State) : onSeqUnit i sel s f = .next (raiseByAction .badCfg i s) := by
  rw [onSeqUnit_of_target unit, if_neg (Bool.eq_false_iff.1 illegal)]

end OnSeqUnit

theorem lenLegal_eq_false_iff (s : State) (j : Fin 2) :
    lenLegal s j = false ↔ (s.seqUnit j).len.toNat = 0 ∨ 16 < (s.seqUnit j).len.toNat := by
  rw [← Bool.not_eq_true, lenLegal_iff]
  omega

/-! Moving the cursor leaves what an entry is shown with: the unit's mask and its table are configuration (R51, R53). -/

theorem SameConfiguration.seqMask_eq {s t : State} (h : SameConfiguration s t) (j : Fin 2) :
    seqMask t j = seqMask s j := by
  obtain ⟨-, -, mask, -, -, -, units⟩ := h
  obtain ⟨-, msel, -⟩ := units j
  unfold seqMask State.maskReg
  rw [mask, msel]

theorem SameConfiguration.tableEntry_eq {s t : State} (h : SameConfiguration s t) (j : Fin 2) (e : Nat) :
    tableEntry t j e = tableEntry s j e := by
  obtain ⟨-, -, -, -, -, -, units⟩ := h
  obtain ⟨-, -, table⟩ := units j
  unfold tableEntry
  rw [table]

theorem applyEntry_setCursor (s : State) (j y : Fin 2) (e v : Nat) :
    applyEntry y v (s.setCursor j e) = (applyEntry y v s).setCursor j e := by
  have config := SameConfiguration.setCursor s j e
  unfold applyEntry
  rw [config.seqMask_eq, config.tableEntry_eq]
  rfl

/-- OUT with entry `e` on the bits of the unit's mask (R201). -/
def entryShown (s : State) (j : Fin 2) (e : Fin 16) : Word :=
  (s.out &&& ~~~seqMask s j) ||| ((s.seqUnit j).table[e] &&& seqMask s j)

theorem applyEntry_val (j : Fin 2) (e : Fin 16) (s : State) : applyEntry j e.val s = s.setOut (entryShown s j e) := by
  simp [applyEntry, tableEntry, entryShown]

end Sys2Proof.Machine

/-! The SEQ actions on a unit of legal length (R205 to R209). -/

namespace Sys2Proof.Machine

section SeqActions

variable {n : BitVec 3} {j : Fin 2} {s : State} (unit : n.toNat = j.val) (legal : lenLegal s j = true) {e : Fin 16}

include unit legal

theorem exec_seqAdv (entry : e.val = (cursor s j + 1) % (s.seqUnit j).len.toNat) :
    exec (.seqAdv n) s = .next ((s.setOut (entryShown s j e)).setCursor j e.val) := by
  rw [← applyEntry_val, ← applyEntry_setCursor, entry]
  exact onSeqUnit_of_legal unit legal ..

theorem exec_seqStep (entry : e.val = cursor s j) :
    exec (.seqStep n) s =
      .next ((s.setOut (entryShown s j e)).setCursor j ((e.val + 1) % (s.seqUnit j).len.toNat)) := by
  rw [← applyEntry_val, entry]
  exact onSeqUnit_of_legal unit legal ..

theorem exec_seqOvr (entry : e.val = (s.seqUnit j).len.toNat - 1) :
    exec (.seqOvr n) s = .next ((s.setOut (entryShown s j e)).setCursor j 0) := by
  rw [← applyEntry_val, entry]
  exact onSeqUnit_of_legal unit legal ..

theorem exec_seqShow {imm : Half} (entry : e.val = imm.toNat % (s.seqUnit j).len.toNat) :
    exec (.seqShow n imm) s = .next (s.setOut (entryShown s j e)) := by
  rw [← applyEntry_val, entry]
  exact onSeqUnit_of_legal unit legal ..

theorem exec_seqSetc (imm : Half) :
    exec (.seqSetc n imm) s = .next (s.setCursor j (imm.toNat % (s.seqUnit j).len.toNat)) :=
  onSeqUnit_of_legal unit legal ..

end SeqActions

/-- Settles O11: the words are those of rows with a target, and a legal length keeps the entry inside the table. -/
theorem sequenceActionEffects : Obligations.SequenceActionEffects := by
  unfold Obligations.SequenceActionEffects
  refine ⟨targetForm (o := .seqAdv) (by decide) rfl, targetForm (o := .seqStep) (by decide) rfl,
    targetForm (o := .seqOvr) (by decide) rfl, immediateForm (o := .seqShow) (by decide) rfl,
    immediateForm (o := .seqSetc) (by decide) rfl, ?_⟩
  intro s n imm h q L M shown moved low high
  have legal : lenLegal s ⟨n.toNat, h⟩ = true := (lenLegal_iff s ⟨n.toNat, h⟩).2 ⟨low, high⟩
  have inTable (x : Nat) : x % L < 16 := (Nat.mod_lt x low).trans_le high
  have last : L - 1 < 16 := by omega
  exact ⟨⟨⟨_, inTable _⟩, rfl, exec_seqAdv rfl legal rfl⟩,
    ⟨⟨_, inTable _⟩, rfl, exec_seqStep rfl legal rfl⟩,
    ⟨⟨_, last⟩, rfl, exec_seqOvr rfl legal rfl⟩,
    ⟨⟨_, inTable _⟩, rfl, exec_seqShow rfl legal rfl⟩,
    exec_seqSetc rfl legal imm⟩

end Sys2Proof.Machine

/-! What the OUT and SEQ actions leave of OUT (R210), and a SEQ action on a unit without a legal length (R200). -/

namespace Sys2Proof.Machine

/-- OUT of both states agrees on the bits that are 0 in `M`. -/
def SameOutside (M : Word) (s t : State) : Prop := t.out &&& ~~~M = s.out &&& ~~~M

namespace SameOutside

variable {M : Word} {s : State}

theorem of_out_eq {t : State} (h : t.out = s.out) : SameOutside M s t := congrArg (· &&& ~~~M) h

/-- It is enough that every bit outside `M` is the old one. -/
theorem setOut {v : Word} (h : ∀ (k : Nat) (_ : k < 32), M[k] = false → v[k] = s.out[k]) :
    SameOutside M s (s.setOut v) := by
  refine BitVec.eq_of_getElem_eq fun k hk => ?_
  cases inside : M[k]
  · simp [inside, h k hk inside]
  · simp [inside]

theorem setBits (M : Word) (s : State) : SameOutside M s (s.setOut (s.out ||| M)) :=
  setOut fun k _ outside => by simp [outside]

theorem clearBits (M : Word) (s : State) : SameOutside M s (s.setOut (s.out &&& ~~~M)) :=
  setOut fun k _ outside => by simp [outside]

theorem toggleBits (M : Word) (s : State) : SameOutside M s (s.setOut (s.out ^^^ M)) :=
  setOut fun k _ outside => by simp [outside]

theorem applyEntry (j : Fin 2) (e : Nat) (s : State) : SameOutside (seqMask s j) s (applyEntry j e s) :=
  setOut fun k _ outside => by simp [outside]

end SameOutside

/-- Every OUT action is an update through the mask its SEL names (R202 to R204). -/
theorem exec_of_maskKind {i : Instr} (kind : i.opcode.kind = .mask) (s : State) :
    ∃ t, exec i s = .next t ∧ SameOutside (s.maskReg i.sel.toFin) s t := by
  cases i with
  | outSet n => exact ⟨_, exec_outSet n s, .setBits ..⟩
  | outClr n => exact ⟨_, exec_outClr n s, .clearBits ..⟩
  | outTgl n => exact ⟨_, exec_outTgl n s, .toggleBits ..⟩
  | _ => cases kind

/-- Every SEQ action is an update of one unit that shows no bit outside the unit's mask (R201, R205 to R209). -/
theorem exec_of_seqKind {i : Instr} (kind : i.opcode.kind = .seq) (s : State) :
    ∃ f, exec i s = onSeqUnit i i.sel s f ∧ ∀ j, SameOutside (seqMask s j) s (f j) := by
  cases i with
  | seqAdv n =>
    refine ⟨_, rfl, fun j => ?_⟩
    rw [applyEntry_setCursor]
    exact .applyEntry j _ s
  | seqStep n => exact ⟨_, rfl, fun j => .applyEntry j _ s⟩
  | seqOvr n => exact ⟨_, rfl, fun j => .applyEntry j _ s⟩
  | seqShow n imm => exact ⟨_, rfl, fun j => .applyEntry j _ s⟩
  | seqSetc n imm => exact ⟨_, rfl, fun j => .of_out_eq rfl⟩
  | _ => cases kind

/-- Settles O18: an action shows nothing outside its mask, and an error leaves OUT. -/
theorem outputActionsKeepForeignBits : Obligations.OutputActionsKeepForeignBits := by
  unfold Obligations.OutputActionsKeepForeignBits
  rintro i s t M (⟨kind, rfl⟩ | ⟨kind, j, unit, rfl⟩) h
  · obtain ⟨u, answer, same⟩ := exec_of_maskKind kind s
    cases answer.symm.trans h
    exact same
  · obtain ⟨f, answer, same⟩ := exec_of_seqKind kind s
    rw [answer, onSeqUnit_of_target unit.symm] at h
    cases h
    split
    · exact same j
    · exact SameOutside.of_out_eq (raiseByAction_out ..)

/-- An error an action raises under a name is the error of the state in that name, once the old name is back. -/
theorem raiseByAction_restoreRequester (code : ErrCause) (i : Instr) (q : Requester) (s : State) :
    (raiseByAction code i (s.setRequester q)).setRequester s.requester =
      raiseError code q.src q.idx (encode i) s := by
  unfold raiseByAction
  rw [raiseError_setRequester]
  exact (congrArg (State.setRequester _) (raiseError_requester ..).symm :)

/-- Settles O12: SeqCheck refuses the unit, and the word of the term that is named in the error is the executed one. -/
theorem sequenceActionsNeedLegalLength : Obligations.SequenceActionsNeedLegalLength := by
  unfold Obligations.SequenceActionsNeedLegalLength
  intro w i j src idx s hw kind unit len
  have illegal : lenLegal (s.setRequester ⟨src, idx⟩) j = false := (lenLegal_eq_false_iff s j).2 len
  obtain ⟨f, answer, -⟩ := exec_of_seqKind kind (s.setRequester ⟨src, idx⟩)
  obtain ⟨-, word⟩ := encodeOfDecode w i hw
  rw [execWord_of_ok hw, asRequester, answer, onSeqUnit_of_illegal unit illegal, andThen_next,
    raiseByAction_restoreRequester, word]

end Sys2Proof.Machine

/-! The detection of an event on a line: what each setting of the line answers (R231 to R234, R239). -/

namespace Sys2Proof.Machine

theorem levelMode_eq_false_iff (x : Sense) : levelMode x = false ↔ x = .fall ∨ x = .rise := by
  cases x <;> decide

theorem levelMode_eq_true_iff (x : Sense) : levelMode x = true ↔ x = .low ∨ x = .high := by
  cases x <;> decide

/-- In edge mode the raw event is an edge to the active level. -/
theorem rawEvent_iff (x : Sense) (old2 new2 : Bool) :
    rawEvent x old2 new2 = true ↔
      (x = .fall ∧ old2 = true ∧ new2 = false) ∨ (x = .rise ∧ old2 = false ∧ new2 = true) := by
  cases x <;> simp [rawEvent]

theorem atActiveLevel_iff_of_edge {x : Sense} (edge : x = .fall ∨ x = .rise) (new2 : Bool) :
    (new2 == activeLevel x) = true ↔ (x = .fall ∧ new2 = false) ∨ (x = .rise ∧ new2 = true) := by
  obtain rfl | rfl := edge <;> simp [activeLevel]

theorem atActiveLevel_iff_of_level {x : Sense} (level : x = .low ∨ x = .high) (new2 : Bool) :
    (new2 == activeLevel x) = true ↔ (x = .low ∧ new2 = false) ∨ (x = .high ∧ new2 = true) := by
  obtain rfl | rfl := level <;> simp [activeLevel]

/-- A raw event is the arrival at the active level of an edge line. -/
theorem rawEvent_iff_arrives (x : Sense) (old2 new2 : Bool) :
    rawEvent x old2 new2 = true ↔
      ((x = .fall ∧ new2 = false) ∨ (x = .rise ∧ new2 = true)) ∧ old2 ≠ new2 := by
  cases x <;> cases new2 <;> simp [rawEvent]

section Detect

variable {l : Line} {startD : Half} {old2 new2 tick : Bool}

theorem detect_of_disabled (dis : l.ctrl.en = false) : detect l startD old2 new2 tick = (.idle, false) := if_pos dis

theorem detect_of_level (en : l.ctrl.en = true) (level : levelMode l.ctrl.sense = true) :
    detect l startD old2 new2 tick = (.idle, new2 == activeLevel l.ctrl.sense) := by
  rw [detect, if_neg (by simp [en]), if_pos level]

theorem detect_of_edge (en : l.ctrl.en = true) (edge : levelMode l.ctrl.sense = false) (now : l.debounce = 0)
    (before : startD = 0) : detect l startD old2 new2 tick = (.idle, rawEvent l.ctrl.sense old2 new2) := by
  rw [detect, if_neg (by simp [en]), if_neg (by simp [edge]), if_pos ⟨now, before⟩]

theorem detect_of_debounced {d : Debounce} {event : Bool} (en : l.ctrl.en = true)
    (edge : levelMode l.ctrl.sense = false) (debounced : l.debounce ≠ 0 ∨ startD ≠ 0)
    (settled : settle l.db l.debounce (rawEvent l.ctrl.sense old2 new2) (new2 == activeLevel l.ctrl.sense) tick =
      (d, event)) :
    detect l startD old2 new2 tick = (if l.debounce = 0 then .idle else d, event) := by
  rw [detect, if_neg (by simp [en]), if_neg (by simp [edge]), if_neg (not_and_or.2 debounced), settled]

end Detect

/-! The settle machine in SETTLE, on a tick (R239). -/

theorem settle_counts {c : Half} (long : 1 < c.toNat) (d : Half) (raw active : Bool) :
    settle (.settle c) d raw active true = (.settle (BitVec.ofNat 16 (c.toNat - 1)), false) := by
  have pred : c - 1 = BitVec.ofNat 16 (c.toNat - 1) := by bv_omega
  rw [← pred]
  exact if_pos long

theorem settle_ends {c : Half} (last : c.toNat ≤ 1) (d : Half) (raw active : Bool) :
    settle (.settle c) d raw active true = if active then (.hold, true) else (.idle, false) :=
  if_neg (not_lt.2 last)

end Sys2Proof.Machine

/-! The sampling of one line: its synchroniser shifts whatever is detected (R230), and an event is recorded and runs
actions by the line's mode (R240). -/

namespace Sys2Proof.Machine

/-- Line i after its synchroniser's shift, with DB at `d`; nothing else changes. -/
def State.shiftLine (s : State) (i : Fin 4) (pin : Bool) (d : Debounce) : State :=
  s.setLine i { s.line i with sync2 := (s.line i).sync1, sync1 := pin, db := d }

theorem State.shiftLine_ctrl (s : State) (i : Fin 4) (pin : Bool) (d : Debounce) :
    ((s.shiftLine i pin d).line i).ctrl = (s.line i).ctrl := by
  rw [State.shiftLine, State.line_setLine_same]

/-- The record of an event in edge mode: PEND, and MISSED when the bit was set already. -/
def edgeRecorded (i : Fin 4) (s : State) : State :=
  { s with
    pend := { s.pend with line := s.pend.line ||| BitVec.twoPow 4 i.val }
    missed :=
      if s.pend.line.getLsbD i.val then { s.missed with line := s.missed.line ||| BitVec.twoPow 4 i.val }
      else s.missed }

theorem recordEvent_of_edge {i : Fin 4} {s : State} (edge : levelMode (s.line i).ctrl.sense = false) :
    recordEvent i s = edgeRecorded i s := by
  rw [recordEvent, edge, linePending, edgeRecorded]
  cases s.pend.line.getLsbD i.val <;> rfl

theorem recordEvent_of_level {i : Fin 4} {s : State} (level : levelMode (s.line i).ctrl.sense = true) :
    recordEvent i s = pendLine s i := by
  rw [recordEvent, level]
  rfl

theorem runsActions_of_edge {i : Fin 4} {s : State} (edge : levelMode (s.line i).ctrl.sense = false) :
    runsActions i s = (s.line i).ctrl.actEn := by
  simp [runsActions, edge]

theorem runsActions_of_level {i : Fin 4} {s : State} (level : levelMode (s.line i).ctrl.sense = true) :
    runsActions i s = ((s.line i).ctrl.actEn && !linePending s i) := by
  simp [runsActions, level]

section SampleLine

variable {i : Fin 4} {tick : Bool} {start : Vector Line 4} {s : State} {d : Debounce} (pins : BitVec 4)

theorem sampleLine_of_noEvent
    (h : detect (s.line i) start[i].debounce (s.line i).sync2 (s.line i).sync1 tick = (d, false)) :
    sampleLine i pins tick start s = (false, s.shiftLine i (pins.getLsbD i.val) d) := by
  simp only [sampleLine, sampledLine, h]
  rfl

theorem sampleLine_of_event
    (h : detect (s.line i) start[i].debounce (s.line i).sync2 (s.line i).sync1 tick = (d, true)) :
    sampleLine i pins tick start s =
      (runsActions i (s.shiftLine i (pins.getLsbD i.val) d),
        recordEvent i (s.shiftLine i (pins.getLsbD i.val) d)) := by
  simp only [sampleLine, sampledLine, h]
  rfl

theorem sampleLine_of_edgeEvent (edge : levelMode (s.line i).ctrl.sense = false)
    (h : detect (s.line i) start[i].debounce (s.line i).sync2 (s.line i).sync1 tick = (d, true)) :
    sampleLine i pins tick start s =
      ((s.line i).ctrl.actEn, edgeRecorded i (s.shiftLine i (pins.getLsbD i.val) d)) := by
  have ctrl := s.shiftLine_ctrl i (pins.getLsbD i.val) d
  have shiftedEdge : levelMode ((s.shiftLine i (pins.getLsbD i.val) d).line i).ctrl.sense = false := by rw [ctrl, edge]
  rw [sampleLine_of_event pins h, runsActions_of_edge shiftedEdge, recordEvent_of_edge shiftedEdge, ctrl]

theorem sampleLine_of_levelEvent (level : levelMode (s.line i).ctrl.sense = true)
    (h : detect (s.line i) start[i].debounce (s.line i).sync2 (s.line i).sync1 tick = (d, true)) :
    sampleLine i pins tick start s =
      ((s.line i).ctrl.actEn && !linePending s i, pendLine (s.shiftLine i (pins.getLsbD i.val) d) i) := by
  have ctrl := s.shiftLine_ctrl i (pins.getLsbD i.val) d
  have shiftedLevel : levelMode ((s.shiftLine i (pins.getLsbD i.val) d).line i).ctrl.sense = true := by
    rw [ctrl, level]
  rw [sampleLine_of_event pins h, runsActions_of_level shiftedLevel, recordEvent_of_level shiftedLevel, ctrl]
  rfl

end SampleLine

/-- Settles O41: detection answers no event and IDLE. -/
theorem disabledLineHasNoEvent : Obligations.DisabledLineHasNoEvent := by
  unfold Obligations.DisabledLineHasNoEvent
  intro i pins tick start s l dis
  exact sampleLine_of_noEvent pins (detect_of_disabled dis)

/-- Settles O42: with DEBOUNCE 0 now and before, detection answers the raw edge, and an edge event is recorded. -/
theorem edgeLineEvent : Obligations.EdgeLineEvent := by
  unfold Obligations.EdgeLineEvent
  intro i pins tick start s l one event shifted en now before sense
  have edge : levelMode l.ctrl.sense = false := (levelMode_eq_false_iff _).2 sense
  have detected := detect_of_edge (old2 := l.sync2) (new2 := l.sync1) (tick := tick) en edge now before
  refine ⟨fun happens => sampleLine_of_edgeEvent pins edge (detected.trans ?_),
    fun absent => sampleLine_of_noEvent pins (detected.trans ?_)⟩
  · rw [(rawEvent_iff ..).2 happens]
  · rw [Bool.eq_false_iff.2 (mt (rawEvent_iff ..).1 absent)]

/-- Settles O43: in level mode detection answers whether the line is at its level, and a level event is recorded. -/
theorem levelLineEvent : Obligations.LevelLineEvent := by
  unfold Obligations.LevelLineEvent
  intro i pins tick start s l one event shifted en sense
  have level : levelMode l.ctrl.sense = true := (levelMode_eq_true_iff _).2 sense
  have detected := detect_of_level (startD := start[i].debounce) (old2 := l.sync2) (new2 := l.sync1) (tick := tick)
    en level
  refine ⟨fun happens => sampleLine_of_levelEvent pins level (detected.trans ?_),
    fun absent => sampleLine_of_noEvent pins (detected.trans ?_)⟩
  · rw [(atActiveLevel_iff_of_level sense _).2 happens]
  · rw [Bool.eq_false_iff.2 (mt (atActiveLevel_iff_of_level sense _).1 absent)]

/-- Settles O44: the settle machine answers DB and the event, state by state. -/
theorem debouncedLineEvent : Obligations.DebouncedLineEvent := by
  unfold Obligations.DebouncedLineEvent
  intro i pins tick start s l one active raw moved quiet en debounced sense
  have edge : levelMode l.ctrl.sense = false := (levelMode_eq_false_iff _).2 sense
  have atLevel (h : active) : (l.sync1 == activeLevel l.ctrl.sense) = true := (atActiveLevel_iff_of_edge sense _).2 h
  have offLevel (h : ¬active) : (l.sync1 == activeLevel l.ctrl.sense) = false :=
    Bool.eq_false_iff.2 (mt (atActiveLevel_iff_of_edge sense _).1 h)
  have detected {d : Debounce} {event : Bool}
      (settled : settle l.db l.debounce (rawEvent l.ctrl.sense l.sync2 l.sync1)
        (l.sync1 == activeLevel l.ctrl.sense) tick = (d, event)) :
      detect l start[i].debounce l.sync2 l.sync1 tick = (if l.debounce = 0 then .idle else d, event) :=
    detect_of_debounced en edge debounced settled
  refine ⟨fun idle => ⟨fun arrives => sampleLine_of_noEvent pins (detected ?_),
      fun absent => sampleLine_of_noEvent pins (detected ?_)⟩,
    fun c settling => ⟨fun noTick => sampleLine_of_noEvent pins (detected ?_),
      fun ticks long => sampleLine_of_noEvent pins (detected ?_),
      fun ticks last off => sampleLine_of_noEvent pins (detected ?_),
      fun ticks last on => sampleLine_of_edgeEvent pins edge (detected ?_)⟩,
    fun hold => ⟨fun on => sampleLine_of_noEvent pins (detected ?_),
      fun off => sampleLine_of_noEvent pins (detected ?_)⟩⟩
  · rw [idle, (rawEvent_iff_arrives ..).2 arrives]
    rfl
  · rw [idle, Bool.eq_false_iff.2 (mt (rawEvent_iff_arrives ..).1 absent)]
    rfl
  · rw [settling, noTick]
    rfl
  · rw [settling, ticks, settle_counts long]
  · rw [settling, ticks, settle_ends last, offLevel off]
    rfl
  · rw [settling, ticks, settle_ends last, atLevel on]
    rfl
  · rw [hold, atLevel on]
    rfl
  · rw [hold, offLevel off]
    rfl

end Sys2Proof.Machine

/-! A write of LINE[i].CTRL (R245). -/

namespace Sys2Proof.Machine

theorem Sense.bits_inj {x y : Sense} : x.bits = y.bits ↔ x = y := by
  cases x <;> cases y <;> decide

/-- SENSE is bits 2:1 of a written CTRL (R42). -/
theorem LineCtrl.sense_ofWord_eq_iff (v : Word) (x : Sense) :
    (LineCtrl.ofWord v).sense = x ↔ v.toNat / 2 % 4 = x.bits.toNat := by
  have field : (LineCtrl.ofWord v).sense.bits.toNat = v.toNat / 2 % 4 := by
    rw [show (LineCtrl.ofWord v).sense.bits = v.extractLsb' 1 2 from Sense.bits_ofBits _, BitVec.extractLsb'_toNat,
      Nat.shiftRight_eq_div_pow]
  rw [← Sense.bits_inj, ← BitVec.toNat_inj, field]

/-- Settles O33: CTRL takes its field bits, and a change of SENSE clears what the line has pending. -/
theorem senseChangeClearsLine : Obligations.SenseChangeClearsLine := by
  unfold Obligations.SenseChangeClearsLine
  refine fun i v s => ⟨LineCtrl.ofWord v, LineCtrl.word_ofWord v, congrArg Host.Outcome.next ?_⟩
  obtain ⟨kept, e⟩ | ⟨changed, e⟩ := writeLineCtrl_cases i v s <;> rw [e]
  · exact (if_pos ((LineCtrl.sense_ofWord_eq_iff ..).1 kept)).symm
  · exact (if_neg (mt (LineCtrl.sense_ofWord_eq_iff ..).2 changed)).symm

end Sys2Proof.Machine

/-! The order of the lines (R243). -/

namespace Sys2Proof.Machine

theorem mem_lineOrder (s : State) (i : Fin 4) : i ∈ lineOrder s := by
  have prio : (s.line i).ctrl.prio.toNat ∈ [3, 2, 1, 0] := by
    have bound := (s.line i).ctrl.prio.isLt
    simp only [List.mem_cons, List.not_mem_nil]
    omega
  have index : ∀ j : Fin 4, j ∈ [(3 : Fin 4), 2, 1, 0] := by decide
  exact List.mem_flatMap.2 ⟨_, prio, List.mem_filter.2 ⟨index i, decide_eq_true rfl⟩⟩

/-- Within one PRIO the lines come by index, and a line of a higher PRIO comes before one of a lower. -/
theorem lineOrder_pairwise (s : State) :
    (lineOrder s).Pairwise fun a b =>
      4 * (s.line b).ctrl.prio.toNat + b.val < 4 * (s.line a).ctrl.prio.toNat + a.val := by
  refine List.pairwise_flatMap.2 ⟨fun p _ => ?_, ?_⟩
  · have byIndex : [(3 : Fin 4), 2, 1, 0].Pairwise fun a b => b < a := by decide
    refine (byIndex.filter _).imp_of_mem fun {a b} ha hb below => ?_
    have prioA := of_decide_eq_true (List.mem_filter.1 ha).2
    have prioB := of_decide_eq_true (List.mem_filter.1 hb).2
    omega
  · have byPrio : [3, 2, 1, 0].Pairwise fun (p q : Nat) => q < p := by decide
    refine byPrio.imp fun {p q} below a ha b hb => ?_
    have prioA := of_decide_eq_true (List.mem_filter.1 ha).2
    have prioB := of_decide_eq_true (List.mem_filter.1 hb).2
    omega

/-- Settles O45: every line is in the order, and none twice, for the keys strictly descend. -/
theorem lineOrderIsByUrgency : Obligations.LineOrderIsByUrgency := by
  unfold Obligations.LineOrderIsByUrgency
  intro s
  have descending := lineOrder_pairwise s
  have nodup : (lineOrder s).Nodup := descending.imp fun below same => by simp [same] at below
  have everyLine : ∀ i : Fin 4, i ∈ [(0 : Fin 4), 1, 2, 3] := by decide
  exact ⟨(List.perm_ext_iff_of_nodup nodup (by decide)).2 fun i => iff_of_true (mem_lineOrder s i) (everyLine i),
    descending⟩

end Sys2Proof.Machine

/-! The actions of the firing lines (R131, R134, R241). -/

namespace Sys2Proof.Machine

/-- ACT1 is the line's word of before ACT0: no action writes an action register. -/
theorem lineActions_of_act0 {i : Fin 4} {s u : State} (first : execWord (s.line i).act0 .line0 i s = .next u) :
    lineActions i s = execWord (s.line i).act1 .line1 i u := by
  rw [lineActions, first, andThen_next, line_of_lines_eq (execWord_lines first)]

/-- Elements that are passed over may as well not be in the list. -/
theorem forEach_filter {α : Type} (l : List α) (p : α → Bool) (f : α → State → Result) :
    forEach l (fun a t => if p a then f a t else .next t) = forEach (l.filter p) f := by
  induction l with
  | nil => rfl
  | cons a l ih =>
    funext s
    cases chosen : p a <;> simp [chosen, ih]

/-- The updates of a list, as a left fold of sequencing. -/
theorem foldl_andThen {α : Type} (l : List α) (f : α → State → Result) (r : Result) :
    l.foldl (fun done a => andThen done (f a)) r = andThen r (forEach l f) := by
  induction l generalizing r with
  | nil => exact (andThen_next_right r).symm
  | cons a l ih => exact (ih _).trans (andThen_andThen ..)

theorem lineSample_eq {pins : BitVec 4} {tick : Bool} {start : Vector Line 4} {s s1 s2 s3 u : State}
    {fire : Vector Bool 4} (line0 : sampleLine 0 pins tick start s = (fire[0], s1))
    (line1 : sampleLine 1 pins tick start s1 = (fire[1], s2)) (line2 : sampleLine 2 pins tick start s2 = (fire[2], s3))
    (line3 : sampleLine 3 pins tick start s3 = (fire[3], u)) : lineSample pins tick start s = (fire, u) := by
  have all : #v[fire[0], fire[1], fire[2], fire[3]] = fire := by
    ext k hk
    interval_cases k <;> rfl
  simp only [lineSample, line0, line1, line2, line3, all]

/-- Settles O46: ACT0 completes whatever it does, and the line phase passes over the lines that do not fire. -/
theorem bothLineActionsRun : Obligations.BothLineActionsRun := by
  unfold Obligations.BothLineActionsRun
  refine ⟨fun i s => ⟨?_, fun e rejected => lineActions_of_act0 (execWord_of_error rejected ..)⟩, ?_⟩
  · obtain ⟨u, first⟩ := execWord_completes (s.line i).act0 .line0 i s
    exact ⟨u, first, lineActions_of_act0 first⟩
  · intro pins tick start s s1 s2 s3 u fire line0 line1 line2 line3
    rw [linePhase, lineSample_eq line0 line1 line2 line3, foldl_andThen, andThen_next]
    exact congrFun (forEach_filter ..) u

end Sys2Proof.Machine

/-! What a step does to the synchronisers before its line phase: nothing. Slots and actions write no line, and no
register write reaches SYNC1 (R54). -/

namespace Sys2Proof.Machine

theorem fire_lines {k : Fin 4} {s t : State} (h : fire k s = .next t) : t.lines = s.lines := by
  obtain ⟨-, e⟩ | ⟨-, e⟩ := fire_cases k s
  · cases e.symm.trans h
    rfl
  · exact (execWord_lines (e.symm.trans h) :)

theorem evalTask_lines {k : Fin 4} {s t : State} (h : evalTask k s = .next t) : t.lines = s.lines := by
  cases en : (s.task k).ctrl.en
  · cases (evalTask_of_disabled en).symm.trans h
    rfl
  · by_cases due : Due s k
    · obtain ⟨u, fired⟩ := fire_completes k s
      cases (evalTask_of_due en due fired).symm.trans h
      exact (fire_lines fired :)
    · cases mode : (s.task k).ctrl.mode
      · cases (evalTask_counts_down en mode fun zero => due (.inl ⟨mode, zero⟩)).symm.trans h
        rfl
      · cases (evalTask_counts_up en mode (not_le.1 fun reached => due (.inr ⟨mode, reached⟩))).symm.trans h
        rfl

theorem tickEvent_lines (s : State) : (tickEvent s).lines = s.lines := by
  unfold tickEvent recordOverrun
  split <;> rfl

theorem tickPhase_lines {s t : State} (h : tickPhase s = .next t) : t.lines = s.lines := by
  obtain ⟨-, e⟩ | ⟨-, e⟩ := tickPhase_cases s
  · have slots : Keeps (fun u => u.lines = s.lines) (forEach [0, 1, 2, 3] evalTask) :=
      Keeps.forEach _ fun _ _ _ kept evaluated => (evalTask_lines evaluated).trans kept
    exact slots _ t (tickEvent_lines s) (e.symm.trans h)
  · cases e.symm.trans h
    exact tickEvent_lines s

theorem tickCount_lines (s : State) : (tickCount s).2.lines = s.lines := by
  obtain ⟨-, e⟩ | ⟨-, -, e⟩ | ⟨-, -, e⟩ := tickCount_cases s <;> rw [e] <;> rfl

/-- Phases 2 to 4 sample every line as it was after the bus phase (R131). -/
theorem afterBus_line {pins : BitVec 4} {start : Vector Line 4} {s t : State} (h : afterBus pins start s = .next t)
    (i : Fin 4) :
    t.line i = sampledLine (s.line i) start[i].debounce (pins.getLsbD i.val) (tickCount s).1 := by
  obtain ⟨noTick, e⟩ | ⟨ticks, e⟩ := afterBus_cases pins start s
  · rw [linePhase_line (e.symm.trans h) i, noTick, line_of_lines_eq (tickCount_lines s)]
  · obtain ⟨u, ticked, phase⟩ := (andThen_eq_next ..).1 (e.symm.trans h)
    rw [linePhase_line phase i, ticks, line_of_lines_eq ((tickPhase_lines ticked).trans (tickCount_lines s))]

/-- Every line has the same SYNC1. -/
def SameSync1 (s t : State) : Prop := ∀ i : Fin 4, (t.line i).sync1 = (s.line i).sync1

namespace SameSync1

theorem of_lines_eq {s t : State} (h : t.lines = s.lines) : SameSync1 s t :=
  fun i => congrArg Line.sync1 (line_of_lines_eq h i)

theorem setLine (s : State) (i : Fin 4) {v : Line} (hv : v.sync1 = (s.line i).sync1) : SameSync1 s (s.setLine i v) := by
  intro y
  rw [State.line_setLine]
  split
  next h => exact h ▸ hv
  next => rfl

theorem writeLineCtrl (i : Fin 4) (v : Word) (s : State) : SameSync1 s (writeLineCtrl i v s) := by
  obtain ⟨-, e⟩ | ⟨-, e⟩ := writeLineCtrl_cases i v s <;> rw [e]
  · exact setLine s i rfl
  · exact setLine s i (v := { s.line i with ctrl := LineCtrl.ofWord v, db := .idle }) rfl

theorem regWrite {r : Reg} {v : Word} {s t : State} (h : regWrite r v s = .next t) : SameSync1 s t := by
  cases r with
  | cmd => exact of_lines_eq (execWord_lines h)
  | lineCtrl i => cases h; exact writeLineCtrl i v s
  | lineDebounce i | lineAct0 i | lineAct1 i => cases h; exact setLine s i rfl
  | _ => cases h; exact of_lines_eq (by simp [writeMissed, writeTaskCount, writeSeqCtrl, writeSeqTable])

theorem busAccess {req : Option BusRequest} {s t : State} (h : busAccess req s = .next t) : SameSync1 s t := by
  obtain ⟨-, e⟩ | ⟨q, -, ⟨-, e⟩ | ⟨-, -, e⟩ | ⟨-, -, e⟩⟩ := busAccess_cases req s
  · cases e.symm.trans h
    exact of_lines_eq rfl
  · cases e.symm.trans h
    exact of_lines_eq (raiseError_lines ..)
  · obtain ⟨u, written, back⟩ := (andThen_eq_next ..).1 (e.symm.trans h)
    cases back
    unfold windowWrite at written
    split at written
    next => cases written; exact of_lines_eq rfl
    next => exact (regWrite written :)
  · cases e.symm.trans h
    exact of_lines_eq rfl

end SameSync1

/-- Settles O52: the line phase shifts every synchroniser, and nothing before it in the step reaches SYNC1. -/
theorem synchronisersAlwaysShift : Obligations.SynchronisersAlwaysShift := by
  unfold Obligations.SynchronisersAlwaysShift
  intro s t noReset h i
  obtain ⟨reset, -⟩ | ⟨-, e⟩ := step_cases s
  · exact absurd (reset.symm.trans noReset) (by decide)
  · obtain ⟨u, access, phases⟩ := (andThen_eq_next ..).1 (e.symm.trans h)
    rw [afterBus_line phases i]
    exact ⟨SameSync1.busAccess access i, rfl⟩

end Sys2Proof.Machine

/-! The MEAS actions (R271, R272) and the clamp of R8. -/

namespace Sys2Proof.Machine

/-- Both choices of `clamp` are those of R8's `min` and `max`; where MIN is above MAX, MIN is the result. -/
theorem clamp_toNat (v lo hi : Word) : (clamp v lo hi).toNat = max lo.toNat (min v.toNat hi.toNat) := by
  simp only [clamp, apply_ite BitVec.toNat, ← min_def, ← max_def]

theorem clamp_eq_ofNat (v lo hi : Word) :
    clamp v lo hi = BitVec.ofNat 32 (max lo.toNat (min v.toNat hi.toNat)) := by
  rw [← clamp_toNat, BitVec.ofNat_toNat, BitVec.setWidth_eq]

section MeasureActions

variable {n : BitVec 3} (h : n.toNat < 2) (s : State)

theorem exec_measCap :
    exec (.measCap n) s =
      .next
        (s.setMeasUnit ⟨n.toNat, h⟩
          { s.measUnit ⟨n.toNat, h⟩ with
            last := (s.measUnit ⟨n.toNat, h⟩).acc
            acc := 0
            period :=
              clamp (s.measUnit ⟨n.toNat, h⟩).acc (s.measUnit ⟨n.toNat, h⟩).min (s.measUnit ⟨n.toNat, h⟩).max }) :=
  onTarget_of_some (measSel_of_lt n h) ..

theorem exec_measClr :
    exec (.measClr n) s = .next (s.setMeasUnit ⟨n.toNat, h⟩ { s.measUnit ⟨n.toNat, h⟩ with acc := 0 }) :=
  onTarget_of_some (measSel_of_lt n h) ..

end MeasureActions

/-- Settles O15: the words are those of rows with a target, and the period stored is the clamp of R8. -/
theorem measureActionEffects : Obligations.MeasureActionEffects := by
  unfold Obligations.MeasureActionEffects
  refine ⟨targetForm (o := .measCap) (by decide) rfl, targetForm (o := .measClr) (by decide) rfl,
    fun s n h => ⟨?_, exec_measClr h s⟩⟩
  rw [exec_measCap h, clamp_eq_ofNat]
  rfl

end Sys2Proof.Machine

/-! The words of the actions without a target (R101 to R105): the match word of R104, with the immediate in IMM where
the row has one. -/

namespace Sys2Proof

theorem decode_matchWord_add_imm {o : Opcode} {imm : Half} (noTarget : o.kind = .none)
    (himm : o.takesImm = false → imm = 0) : decode (o.matchWord + imm.setWidth 32) = .ok (o.build 0 imm) := by
  have word : o.matchWord + imm.setWidth 32 = o.number ++ (0 : BitVec 3) ++ 0#8 ++ imm := by
    have zero : (0 : BitVec 3).setWidth 32 * 0x01000000 = 0#32 := rfl
    rw [← matchWord_add_eq_fields, zero, BitVec.add_zero]
  have sel : selField (o.number ++ (0 : BitVec 3) ++ 0#8 ++ imm) = 0 := selField_of_fields ..
  have low : immField (o.number ++ (0 : BitVec 3) ++ 0#8 ++ imm) = imm := immField_of_fields ..
  have legal : LegalFields o (o.number ++ (0 : BitVec 3) ++ 0#8 ++ imm) :=
    { op := opField_of_fields ..
      rsv := rsvField_of_fields ..
      sel := fun _ => sel
      imm := fun h => low.trans (himm h)
      range := by rw [sel, noTarget]; exact Nat.zero_lt_one }
  rw [word, decode_of_legalFields legal, sel, low]

theorem decode_badFmt_of_sel {w : Word} {o : Opcode} (op : opField w = o.number) (noTarget : o.kind = .none)
    (sel : selField w ≠ 0) : decode w = .error .badFmt := by
  rw [decode_of_opField op, if_pos (c := o.kind = .none ∧ _) ⟨noTarget, sel⟩]
  split_ifs <;> rfl

theorem decode_of_decodeTableWord {n w : Nat} {i : Instr} (h : decodeTableWord n w = some i) :
    decode (BitVec.ofNat 32 (w % 2 ^ n)) = .ok i := by
  unfold decodeTableWord at h
  split at h
  next j hj => exact hj.trans (congrArg Except.ok (Option.some.inj h))
  next => cases h

end Sys2Proof

namespace Sys2Proof.Machine

/-- An operation code with neither a target nor an immediate has the one word of its row: any other word with its OP
differs from it in SEL, RSV or IMM. -/
theorem bareForm {o : Opcode} (noTarget : o.kind = .none) (noImm : o.takesImm = false) :
    BareForm o.number o.matchWord (o.build 0 0) := by
  refine ⟨?_, fun w op other => ?_⟩
  · have word := decode_matchWord_add_imm (imm := 0) noTarget fun _ => rfl
    have low : (0 : Half).setWidth 32 = 0#32 := rfl
    rwa [low, BitVec.add_zero] at word
  · obtain ⟨matchOp, matchSel, matchRsv, matchImm⟩ := o.matchWord_fields
    by_cases sel : selField w = 0
    · by_cases rsv : rsvField w = 0
      · have imm : immField w ≠ 0 := fun zero =>
          other ((word_ext_iff w o.matchWord).2
            ⟨op.trans matchOp.symm, sel.trans matchSel.symm, rsv.trans matchRsv.symm, zero.trans matchImm.symm⟩)
        exact decode_badFmt_of_imm op noImm imm
      · exact decode_badFmt_of_rsv op rsv
    · exact decode_badFmt_of_sel op noTarget sel

/-- An operation code with an immediate and no target has the words and errors of its row. -/
theorem flagForm {o : Opcode} (noTarget : o.kind = .none) (takesImm : o.takesImm = true) :
    FlagForm o.number o.matchWord (o.build 0) := by
  have himm {imm : Half} (h : o.takesImm = false) : imm = 0 := absurd (takesImm.symm.trans h) (by decide)
  exact ⟨fun _ => decode_matchWord_add_imm noTarget himm,
    fun _ op h => h.elim (decode_badFmt_of_sel op noTarget) (decode_badFmt_of_rsv op)⟩

end Sys2Proof.Machine

/-! NOP, TICK.CLR (R290, R158) and the FLAG actions (R291 to R294). -/

namespace Sys2Proof.Machine

/-- Settles O6: the words are those of rows with no operand, and TICK.CLR stores 0 in TICK_CURRENT alone. -/
theorem nopAndTickClrEffects : Obligations.NopAndTickClrEffects := by
  unfold Obligations.NopAndTickClrEffects
  exact ⟨bareForm (o := .nop) rfl rfl, bareForm (o := .tickClr) rfl rfl, fun _ => ⟨rfl, rfl⟩⟩

theorem exec_flagTgl (imm : Half) (s : State) : exec (.flagTgl imm) s = .next (s.setFlags (flagsTgl s.flags imm)) := rfl

theorem flagsTgl_flagsTgl (flags imm : Half) : flagsTgl (flagsTgl flags imm) imm = flags := by
  rw [flagsTgl, flagsTgl, BitVec.xor_assoc, BitVec.xor_self, BitVec.xor_zero]

/-- Two equal toggles cancel (R293). -/
theorem exec_flagTgl_twice (imm : Half) (s : State) :
    andThen (exec (.flagTgl imm) s) (exec (.flagTgl imm)) = .next s := by
  rw [exec_flagTgl, andThen_next, exec_flagTgl, State.setFlags_flags, flagsTgl_flagsTgl]
  rfl

/-- Settles O7: the words are those of rows with an immediate alone, and each action writes FLAGS alone. -/
theorem flagActionEffects : Obligations.FlagActionEffects := by
  unfold Obligations.FlagActionEffects
  exact ⟨flagForm (o := .flagSet) rfl rfl, flagForm (o := .flagClr) rfl rfl, flagForm (o := .flagTgl) rfl rfl,
    flagForm (o := .flagLd) rfl rfl, fun s imm => ⟨rfl, rfl, rfl, rfl, exec_flagTgl_twice imm s⟩⟩

end Sys2Proof.Machine

/-! The CNT actions (R295 to R299): the counter they write, and the values they store as numbers. -/

namespace Sys2Proof.Machine

section CounterActions

variable {n : BitVec 3} (h : n.toNat < 4) (imm : Half) (s : State)

theorem exec_cntAdd :
    exec (.cntAdd n imm) s = .next (s.setCounter ⟨n.toNat, h⟩ (s.counter ⟨n.toNat, h⟩ + immWord imm)) :=
  onTarget_of_some (counterSel_of_lt n h) ..

theorem exec_cntSub :
    exec (.cntSub n imm) s = .next (s.setCounter ⟨n.toNat, h⟩ (s.counter ⟨n.toNat, h⟩ - immWord imm)) :=
  onTarget_of_some (counterSel_of_lt n h) ..

theorem exec_cntLd : exec (.cntLd n imm) s = .next (s.setCounter ⟨n.toNat, h⟩ (immWord imm)) :=
  onTarget_of_some (counterSel_of_lt n h) ..

theorem exec_cntIncw :
    exec (.cntIncw n imm) s = .next (s.setCounter ⟨n.toNat, h⟩ (incWrap (s.counter ⟨n.toNat, h⟩) imm)) :=
  onTarget_of_some (counterSel_of_lt n h) ..

theorem exec_cntDecw :
    exec (.cntDecw n imm) s = .next (s.setCounter ⟨n.toNat, h⟩ (decWrap (s.counter ⟨n.toNat, h⟩) imm)) :=
  onTarget_of_some (counterSel_of_lt n h) ..

end CounterActions

theorem add_immWord_eq_ofNat (x : Word) (imm : Half) : x + immWord imm = BitVec.ofNat 32 (x.toNat + imm.toNat) := by
  rw [BitVec.ofNat_add, BitVec.ofNat_toNat, BitVec.setWidth_eq, immWord_eq_ofNat]

theorem sub_immWord_eq_ofNat (x : Word) (imm : Half) :
    x - immWord imm = BitVec.ofNat 32 (x.toNat + 2 ^ 32 - imm.toNat) := by
  have small := imm.isLt
  apply BitVec.eq_of_toNat_eq
  rw [BitVec.toNat_sub, BitVec.toNat_ofNat, immWord_toNat]
  congr 1
  omega

/-- Settles O8: the words are those of rows with a target and an immediate, and word arithmetic is modulo 2^32. -/
theorem counterArithmeticEffects : Obligations.CounterArithmeticEffects := by
  unfold Obligations.CounterArithmeticEffects
  refine ⟨immediateForm (o := .cntAdd) (by decide) rfl, immediateForm (o := .cntSub) (by decide) rfl,
    immediateForm (o := .cntLd) (by decide) rfl, fun s n imm h => ?_⟩
  rw [exec_cntAdd h, exec_cntSub h, exec_cntLd h, add_immWord_eq_ofNat, sub_immWord_eq_ofNat, immWord_eq_ofNat]
  exact ⟨rfl, rfl, rfl⟩

/-! The wrapping counts, with modulus 0 standing for 2^32 (R298, R299). -/

theorem incWrap_of_zero {w : Half} (h : w.toNat = 0) (x : Word) : incWrap x w = x + 1 :=
  if_pos (BitVec.eq_of_toNat_eq h)

theorem decWrap_of_zero {w : Half} (h : w.toNat = 0) (x : Word) : decWrap x w = x - 1 :=
  if_pos (BitVec.eq_of_toNat_eq h)

theorem incWrap_of_pos {w : Half} (h : w.toNat ≠ 0) (x : Word) :
    incWrap x w = BitVec.ofNat 32 ((x.toNat % w.toNat + 1) % w.toNat) :=
  if_neg ((ne_zero_iff_toNat w).2 h)

theorem decWrap_of_pos {w : Half} (h : w.toNat ≠ 0) (x : Word) :
    decWrap x w = BitVec.ofNat 32 (if x.toNat % w.toNat = 0 then w.toNat - 1 else x.toNat % w.toNat - 1) := by
  rw [decWrap, if_neg ((ne_zero_iff_toNat w).2 h), apply_ite (BitVec.ofNat 32)]

theorem incWrap_eq_ofNat (x : Word) (w : Half) :
    incWrap x w =
      BitVec.ofNat 32 (if w.toNat = 0 then x.toNat + 1 else (x.toNat % w.toNat + 1) % w.toNat) := by
  by_cases h : w.toNat = 0
  · rw [if_pos h, incWrap_of_zero h]
    bv_omega
  · rw [if_neg h, incWrap_of_pos h]

theorem decWrap_eq_ofNat (x : Word) (w : Half) :
    decWrap x w =
      BitVec.ofNat 32
        (if w.toNat = 0 then x.toNat + 2 ^ 32 - 1
          else if x.toNat % w.toNat = 0 then w.toNat - 1 else x.toNat % w.toNat - 1) := by
  by_cases h : w.toNat = 0
  · rw [if_pos h, decWrap_of_zero h]
    bv_omega
  · rw [if_neg h, decWrap_of_pos h]

/-- Counting up and down again with one modulus gives back a value below it: the value `w - 1` goes up to 0, which goes
down to `w - 1`. -/
theorem decWrap_incWrap {x : Word} {w : Half} (below : w.toNat = 0 ∨ x.toNat < w.toNat) :
    decWrap (incWrap x w) w = x := by
  by_cases h : w.toNat = 0
  · rw [incWrap_of_zero h, decWrap_of_zero h, BitVec.add_sub_cancel]
  · have lt : x.toNat < w.toNat := below.resolve_left h
    have size := w.isLt
    rw [incWrap_of_pos h, decWrap_of_pos h, Nat.mod_eq_of_lt lt, BitVec.toNat_ofNat]
    apply BitVec.eq_of_toNat_eq
    obtain last | inner := Nat.eq_or_lt_of_le (Nat.succ_le_of_lt lt)
    · have up : (x.toNat + 1) % w.toNat = 0 := by rw [← Nat.succ_eq_add_one, last, Nat.mod_self]
      rw [up, if_pos (by simp), BitVec.toNat_ofNat]
      omega
    · have up : (x.toNat + 1) % w.toNat = x.toNat + 1 := Nat.mod_eq_of_lt inner
      have stored : (x.toNat + 1) % 2 ^ 32 % w.toNat = x.toNat + 1 := by
        rw [Nat.mod_eq_of_lt (b := 2 ^ 32) (by omega), up]
      rw [up, stored, if_neg (Nat.succ_ne_zero _), BitVec.toNat_ofNat]
      omega

theorem State.setCounter_setCounter (s : State) (c : Fin 4) (v w : Word) :
    (s.setCounter c v).setCounter c w = s.setCounter c w := by
  simp [State.setCounter]

theorem State.setCounter_self (s : State) (c : Fin 4) : s.setCounter c (s.counter c) = s := by
  simp [State.setCounter, State.counter]

/-- An increment and then a decrement with one modulus give back a state whose counter is below it (R298, R299). -/
theorem exec_cntIncw_cntDecw {n : BitVec 3} (h : n.toNat < 4) {imm : Half} {s : State}
    (below : imm.toNat = 0 ∨ (s.counter ⟨n.toNat, h⟩).toNat < imm.toNat) :
    andThen (exec (.cntIncw n imm) s) (exec (.cntDecw n imm)) = .next s := by
  rw [exec_cntIncw h, andThen_next, exec_cntDecw h, State.counter_setCounter_same, decWrap_incWrap below,
    State.setCounter_setCounter, State.setCounter_self]

/-- Settles O9: the words are those of rows with a target and an immediate, and the counts wrap at the modulus. -/
theorem counterWrapEffects : Obligations.CounterWrapEffects := by
  unfold Obligations.CounterWrapEffects
  refine ⟨immediateForm (o := .cntIncw) (by decide) rfl, immediateForm (o := .cntDecw) (by decide) rfl,
    fun s n imm h => ⟨?_, ?_, exec_cntIncw_cntDecw h⟩⟩
  · rw [exec_cntIncw h, incWrap_eq_ofNat]
    rfl
  · rw [exec_cntDecw h, decWrap_eq_ofNat]
    rfl

end Sys2Proof.Machine

/-! A word loaded by withFetchWord is the CMD write of the next step (R310; log entry 9). -/

namespace Sys2Proof.Machine

/-- Of four levels put together as pins, pin `k` has level `k`. -/
theorem getLsbD_pins (level : Fin 4 → Bool) (k : Fin 4) :
    BitVec.getLsbD (w := 1 + 1 + 1 + 1) (bit (level 3) ++ bit (level 2) ++ bit (level 1) ++ bit (level 0)) k.val =
      level k := by
  rw [BitVec.getLsbD_append, BitVec.getLsbD_append, BitVec.getLsbD_append]
  fin_cases k <;> simp [bit]

theorem cmdInput_pins (w : Word) (s : State) (k : Fin 4) :
    (cmdInput w s).pins.getLsbD k.val = (s.line k).sync1 :=
  getLsbD_pins (fun i => (s.line i).sync1) k

/-- Settles O48: the loaded input is a CMD write, so the step is the one of `stepRunsCommandWord`. -/
theorem fetchWordRunsNext : Obligations.FetchWordRunsNext := by
  unfold Obligations.FetchWordRunsNext
  intro s w i h
  obtain ⟨-, -, runsCommand⟩ := stepRunsCommandWord
  exact ⟨_, cmdInput_pins (BitVec.ofNat 32 (w % 2 ^ 32)) s,
    runsCommand (s.withFetchWord 32 w) _ i _ s.inputs (decode_of_decodeTableWord h) rfl⟩

end Sys2Proof.Machine

/-! Raising an error: the capture of the first, MULTI for a later one (R322). -/

namespace Sys2Proof.Machine

theorem raiseError_of_clear {s : State} (clear : s.pend.err = false) (code : ErrCause) (src : Source) (idx : Fin 4)
    (info : Word) :
    raiseError code src idx info s =
      { s with
        errCode := { code := code, src := src, idx := idx, multi := false }
        errInfo := info
        pend := { s.pend with err := true } } := by
  obtain ⟨pending, -⟩ | ⟨-, captured⟩ := raiseError_cases code src idx info s
  · rw [clear] at pending
    contradiction
  · exact captured

theorem raiseError_of_pending {s : State} (pending : s.pend.err = true) (code : ErrCause) (src : Source) (idx : Fin 4)
    (info : Word) : raiseError code src idx info s = { s with errCode := { s.errCode with multi := true } } := by
  obtain ⟨-, marked⟩ | ⟨clear, -⟩ := raiseError_cases code src idx info s
  · exact marked
  · rw [pending] at clear
    contradiction

/-- Settles O22: PEND.ERR decides between capture and MULTI, and each decode error is its own cause (R106). -/
theorem firstErrorIsCaptured : Obligations.FirstErrorIsCaptured := by
  unfold Obligations.FirstErrorIsCaptured
  refine ⟨fun code src idx info s => ⟨fun clear => ?_, fun pending => ?_⟩, fun w src idx s => ⟨?_, ?_, ?_⟩⟩
  · exact raiseError_of_clear clear code src idx info
  · exact raiseError_of_pending pending code src idx info
  · exact (execWord_of_error · src idx s)
  · exact (execWord_of_error · src idx s)
  · exact (execWord_of_error · src idx s)

end Sys2Proof.Machine

/-! Where the interrupt outputs' pending bits and enables stand in the register words (R23, R27, R37, R42, R327). -/

namespace Sys2Proof.Machine

/-! A bit of two fields put together is a bit of the high or of the low one. -/

theorem getLsbD_append_high {m n : Nat} (a : BitVec m) (b : BitVec n) (i : Nat) :
    (a ++ b).getLsbD (n + i) = a.getLsbD i := by
  rw [BitVec.getLsbD_append, if_neg (by omega), Nat.add_sub_cancel_left]

theorem getLsbD_append_low {m n : Nat} (a : BitVec m) (b : BitVec n) {i : Nat} (h : i < n) :
    (a ++ b).getLsbD i = b.getLsbD i := by
  rw [BitVec.getLsbD_append, if_pos h]

theorem getLsbD_append_bit {m : Nat} (a : BitVec m) (b : Bool) : (a ++ bit b).getLsbD 0 = b :=
  (getLsbD_append_low a (bit b) Nat.one_pos).trans (by simp [bit])

theorem Pend.word_tick (p : Pend) : p.word.getLsbD 0 = p.tick := getLsbD_append_bit ..

theorem Pend.word_from_task (p : Pend) (i : Nat) :
    p.word.getLsbD (4 + i) = (0#16 ++ bit p.err ++ 0#3 ++ p.line ++ p.task).getLsbD i :=
  calc p.word.getLsbD (4 + i)
    _ = p.word.getLsbD (1 + (3 + i)) := by rw [← Nat.add_assoc]
    _ = (0#16 ++ bit p.err ++ 0#3 ++ p.line ++ p.task ++ 0#3).getLsbD (3 + i) := getLsbD_append_high ..
    _ = _ := getLsbD_append_high ..

theorem Pend.word_task (p : Pend) (k : Fin 4) : p.word.getLsbD (4 + k.val) = p.task.getLsbD k.val :=
  (p.word_from_task k).trans (getLsbD_append_low _ _ k.isLt)

theorem Pend.word_from_line (p : Pend) (i : Nat) :
    p.word.getLsbD (8 + i) = (0#16 ++ bit p.err ++ 0#3 ++ p.line).getLsbD i :=
  calc p.word.getLsbD (8 + i)
    _ = p.word.getLsbD (4 + (4 + i)) := by rw [← Nat.add_assoc]
    _ = (0#16 ++ bit p.err ++ 0#3 ++ p.line ++ p.task).getLsbD (4 + i) := p.word_from_task (4 + i)
    _ = _ := getLsbD_append_high ..

theorem Pend.word_line (p : Pend) (i : Fin 4) : p.word.getLsbD (8 + i.val) = p.line.getLsbD i.val :=
  (p.word_from_line i).trans (getLsbD_append_low _ _ i.isLt)

theorem Pend.word_err (p : Pend) : p.word.getLsbD 15 = p.err :=
  calc p.word.getLsbD 15
    _ = (0#16 ++ bit p.err ++ 0#3 ++ p.line).getLsbD (4 + (3 + 0)) := p.word_from_line 7
    _ = (0#16 ++ bit p.err).getLsbD 0 := by rw [getLsbD_append_high, getLsbD_append_high]
    _ = p.err := getLsbD_append_bit ..

theorem TickCtrl.word_tickInt (c : TickCtrl) : c.word.getLsbD 1 = c.tickInt :=
  (getLsbD_append_high _ _ 0).trans (getLsbD_append_bit ..)

theorem TaskCtrl.word_irqEn (c : TaskCtrl) : c.word.getLsbD 2 = c.irqEn :=
  (getLsbD_append_high _ _ 1).trans ((getLsbD_append_high _ _ 0).trans (getLsbD_append_bit ..))

theorem LineCtrl.word_irqEn (c : LineCtrl) : c.word.getLsbD 3 = c.irqEn :=
  (getLsbD_append_high _ _ 2).trans ((getLsbD_append_high _ _ 0).trans (getLsbD_append_bit ..))

/-- Settles O23: the register bits are the fields the outputs are made of. -/
theorem interruptEquations : Obligations.InterruptEquations := by
  unfold Obligations.InterruptEquations
  intro s
  simp only [regRead, Pend.word_tick, Pend.word_task, Pend.word_line, Pend.word_err, TickCtrl.word_tickInt,
    TaskCtrl.word_irqEn, LineCtrl.word_irqEn]
  exact ⟨rfl, fun _ => rfl, fun _ => rfl, rfl, rfl⟩

end Sys2Proof.Machine

/-! ResetState (R360): what a reset leaves in every part of the state, what the window reads of it, and which invariants
it meets. -/

namespace Sys2Proof.Machine

theorem toReset_reset : State.reset.toReset = State.reset := rfl

/-- A state is ResetState or the answer of a reset step only as some state after a reset (R132). -/
theorem eq_toReset_of_resets {s : State} (h : s = State.reset ∨ ∃ s0, s0.nextInput.rst = true ∧ step s0 = .next s) :
    ∃ u : State, s = u.toReset := by
  obtain rfl | ⟨s0, hrst, hstep⟩ := h
  · exact ⟨State.reset, toReset_reset.symm⟩
  · rw [resetStepGivesResetState s0 hrst] at hstep
    cases hstep
    exact ⟨s0.takeInput, rfl⟩

/-! The arrays of registers: every element is the reset value of its kind (`toReset_line` stands above). -/

theorem toReset_counter (s : State) (c : Fin 4) : s.toReset.counter c = 0 := by
  simp [State.counter, State.toReset, State.reset]

theorem toReset_maskReg (s : State) (m : Fin 8) : s.toReset.maskReg m = 0 := by
  simp [State.maskReg, State.toReset, State.reset]

theorem toReset_task (s : State) (k : Fin 4) : s.toReset.task k = Task.reset := by
  simp [State.task, State.toReset, State.reset]

theorem toReset_measUnit (s : State) (u : Fin 2) : s.toReset.measUnit u = Meas.reset := by
  simp [State.measUnit, State.toReset, State.reset]

theorem toReset_seqUnit (s : State) (j : Fin 2) : s.toReset.seqUnit j = SeqUnit.reset := by
  simp [State.seqUnit, State.toReset, State.reset]

/-- The window shows nothing of what a reset keeps, the environment's record (R130). -/
theorem regRead_toReset_eq_reset (r : Reg) (s : State) : regRead r s.toReset = regRead r State.reset := by
  cases r <;> rfl

/-- Every register of the window reads its row of R360's table. The registers of an array go through the reset value of
its element; a register that stands alone is evaluated on ResetState. -/
theorem regRead_toReset (r : Reg) (s : State) :
    regRead r s.toReset =
      if r = .id then 0x50545301
      else if r = .pins then 0xF
      else if r = .measPeriod 0 ∨ r = .measPeriod 1 ∨ r = .measMax 0 ∨ r = .measMax 1 then 0xFFFFFFFF
      else 0 := by
  cases r with
  | cnt c => simp [regRead, toReset_counter]
  | mask m => simp [regRead, toReset_maskReg]
  | taskCtrl k | taskReload k | taskCount k | taskAction k => simp only [regRead, toReset_task]; rfl
  | lineCtrl i | lineDebounce i | lineAct0 i | lineAct1 i | lineStat i => simp only [regRead, toReset_line]; rfl
  | measPeriod u | measMax u =>
    simp only [regRead, toReset_measUnit]
    fin_cases u <;> rfl
  | measAcc u | measLast u | measMin u => simp only [regRead, toReset_measUnit]; rfl
  | seqCtrl j | seqCur j => simp only [regRead, toReset_seqUnit]; rfl
  | seqTable j e => simp [regRead, toReset_seqUnit, SeqUnit.reset]
  | _ =>
    rw [regRead_toReset_eq_reset]
    rfl

/-- After a reset nothing is pending, so no interrupt output is raised (R360, R327). -/
theorem irq_toReset (s : State) :
    irqTick s.toReset = false ∧ irqErr s.toReset = false ∧
      ∀ k : Fin 4, irqTask s.toReset k = false ∧ irqLine s.toReset k = false := by
  have pending : s.toReset.pend = { tick := false, task := 0, line := 0, err := false } := rfl
  simp [irqTick, irqErr, irqTask, irqLine, pending]

/-- Settles O50: the state is a state after a reset, and each part of it holds its row of R360's table. -/
theorem resetStateValues : Obligations.ResetStateValues := by
  unfold Obligations.ResetStateValues
  intro s h
  obtain ⟨u, rfl⟩ := eq_toReset_of_resets h
  refine ⟨fun r => regRead_toReset r u, fun i => ?_, rfl, irq_toReset u⟩
  rw [toReset_line]
  exact ⟨rfl, rfl, rfl⟩

theorem InactiveLinesIdle.toReset (s : State) : InactiveLinesIdle s.toReset := by
  intro i _
  rw [toReset_line]
  rfl

/-- Settles O60: ResetState is a state after a reset, and a reset sets up each invariant. -/
theorem resetStateIsLegal : Obligations.ResetStateIsLegal := by
  unfold Obligations.ResetStateIsLegal
  rw [← toReset_reset]
  exact ⟨.toReset _, .toReset _, .toReset _, .toReset _⟩

end Sys2Proof.Machine
